-- ==== Sys2Proof/Word.lean ====
section
/-! DEFINITION. The widths of what the floor line and the panel port carry as bits (R21, R179). -/

namespace Sys2Proof

/-- One byte of the panel port. -/
abbrev Byte := BitVec 8

/-- A station address as a frame or a strap carries it (section 3.6: ten bits). -/
abbrev AddrBits := BitVec 10

/-- The key field of a frame (R22). -/
abbrev KeyBits := BitVec 16

end Sys2Proof
end

