-- ==== Sys2Proof/Syntax.lean ====
section
/-! DEFINITION. The commands: one constructor of `Instr` for each row of spec/opcode_table.json, with its operands. -/

namespace Sys2Proof

/-- Station role, and the standing a frame carries (sections 1.2 and 3.7): CHAIR 0, PRIORITY 1, DELEGATE 2, LISTENER 3. -/
inductive Role where
  | chair | priority | delegate | listener
  deriving DecidableEq, Repr

/-- The three seat keys (R175). -/
inductive KeyId where
  | k1 | k2 | k3
  deriving DecidableEq, Repr

/-- Why a received frame is discarded: the faults of R5, R7, R11 and R12, and a dominant slot (R14). -/
inductive DiscardCause where
  | leadFault | stuffFault | formatFault | crcFault | slotDominant
  deriving DecidableEq, Repr

/-- The part of an arrival record every class carries besides its class: standing, key and sender (R17). -/
structure Header where
  standing : Role
  key : KeyBits
  sender : AddrBits
  deriving DecidableEq, Repr

/-- The commands. An arrival command is an accepted frame of another station (own flag clear); the arrival of this
station's own frame comes with `attemptCompleted` (R41). -/
inductive Instr where
  /-- PIN_RESET_ASSERT -/
  | pinResetAssert
  /-- PIN_RESET_RELEASE, with the levels of the strap pins at the release (R174). -/
  | pinResetRelease (addr : AddrBits) (role : Role) (profile : BitVec 2)
  /-- START_BOUNDARY -/
  | startBoundary
  /-- FRAME_DISCARD -/
  | frameDiscard (cause : DiscardCause)
  /-- OBJECTION_BURST_END -/
  | objectionBurstEnd
  /-- ATTEMPT_LOST -/
  | attemptLost
  /-- ATTEMPT_COMPLETED -/
  | attemptCompleted
  /-- ATTEMPT_OBJECTED -/
  | attemptObjected
  /-- LINE_STUCK -/
  | lineStuck
  /-- LINE_CLEAR -/
  | lineClear
  /-- ORDER_ARRIVAL -/
  | orderArrival (h : Header) (source : AddrBits) (sequence : BitVec 8) (mode : BitVec 2) (laneLimit : BitVec 4)
      (allowance : BitVec 8) (grace : BitVec 6) (capacity : BitVec 6) (clear : Bool)
  /-- DIRECT_CUT_ARRIVAL -/
  | directCutArrival (h : Header) (target : AddrBits) (argument : BitVec 13)
  /-- DIRECT_GRANT_ARRIVAL -/
  | directGrantArrival (h : Header) (target : AddrBits) (argument : BitVec 13)
  /-- DIRECT_EXTEND_ARRIVAL -/
  | directExtendArrival (h : Header) (target : AddrBits) (argument : BitVec 13)
  /-- DIRECT_DROP_ASK_ARRIVAL -/
  | directDropAskArrival (h : Header) (target : AddrBits) (argument : BitVec 13)
  /-- YIELD_ARRIVAL -/
  | yieldArrival (h : Header) (lane : BitVec 3) (reason : BitVec 3)
  /-- TAKE_ARRIVAL -/
  | takeArrival (h : Header) (lane : BitVec 3) (displace : Bool) (muting : Bool)
  /-- WITHDRAW_ARRIVAL -/
  | withdrawArrival (h : Header) (reason : BitVec 2)
  /-- ASK_ARRIVAL -/
  | askArrival (h : Header) (refresh : Bool)
  /-- HOLD_ARRIVAL -/
  | holdArrival (h : Header) (elapsed : BitVec 16) (muting : Bool) (warned : Bool)
  /-- VIEW_TICK -/
  | viewTick
  /-- LANE_LAPSE -/
  | laneLapse (lane : BitVec 3)
  /-- MUTE_SOURCE_LAPSE, of the entry of the chair named -/
  | muteSourceLapse (chair : AddrBits)
  /-- LINE_ENTRY_LAPSE, of the entry of the asker named -/
  | lineEntryLapse (asker : AddrBits)
  /-- SETTLING_END -/
  | settlingEnd
  /-- ORDER_REPEAT -/
  | orderRepeat
  /-- SPEECH_TICK -/
  | speechTick
  /-- SPEECH_EXPIRY -/
  | speechExpiry
  /-- LEVEL_SAMPLE, with the sample of LEVEL (R147) -/
  | levelSample (x : BitVec 8)
  /-- ATTACK_COMPLETION -/
  | attackCompletion
  /-- RELEASE_COMPLETION -/
  | releaseCompletion
  /-- TRIM_COMPLETION -/
  | trimCompletion
  /-- GATE_DELAY_EXPIRY -/
  | gateDelayExpiry
  /-- DUCK_TAIL_EXPIRY -/
  | duckTailExpiry
  /-- KEY_LEVEL_CHANGE; `pressed` is set when the pin goes low (the keys are active low) -/
  | keyLevelChange (key : KeyId) (pressed : Bool)
  /-- DEBOUNCE_EXPIRY -/
  | debounceExpiry (key : KeyId)
  /-- REFUSAL_FLASH_END -/
  | refusalFlashEnd
  /-- READ_STATUS -/
  | readStatus
  /-- READ_LANES -/
  | readLanes
  /-- READ_LINE -/
  | readLine
  /-- TAKE_EVENT -/
  | takeEvent
  /-- READ_FEED -/
  | readFeed
  /-- KEY, with its two argument bytes (R180) -/
  | panelKey (key : Byte) (action : Byte)
  /-- TRIM -/
  | panelTrim
  /-- RESTART -/
  | panelRestart
  /-- FEED, with its argument byte -/
  | panelFeed (arg : Byte)
  /-- SET_ORDER, with its six argument bytes -/
  | setOrder (mode : Byte) (laneLimit : Byte) (allowance : Byte) (grace : Byte) (capacity : Byte) (clear : Byte)
  /-- SEND_DIRECT, with its five argument bytes: target (2), action (1), argument (2) -/
  | sendDirect (target : BitVec 16) (action : Byte) (argument : BitVec 16)
  /-- UNKNOWN_COMMAND -/
  | unknownCommand (code : Byte)
  /-- TRANSACTION_ABANDONED -/
  | transactionAbandoned
  /-- EVENT_RECORD_REMOVAL -/
  | eventRecordRemoval
  /-- FEED_RECORD_REMOVAL -/
  | feedRecordRemoval
  /-- FEED_OVERFLOW_CLEAR -/
  | feedOverflowClear
  /-- RESTART_COMPLETION -/
  | restartCompletion
  /-- DIRECT_ACTION_4_7_ARRIVAL, with the action field as read -/
  | directAction47Arrival (h : Header) (target : AddrBits) (action : BitVec 3) (argument : BitVec 13)
  deriving DecidableEq, Repr

end Sys2Proof
end

