-- ==== Sys2Proof/WellFormed.lean ====
section
/-! DEFINITION. Which terms of `Instr` stand for a command of the table. The widths of the operands are their types. -/

namespace Sys2Proof

/-- The eleven command bytes of R180. -/
def commandCodes : List Byte := [0x01, 0x02, 0x03, 0x04, 0x05, 0x10, 0x11, 0x12, 0x13, 0x20, 0x21]

/-- An UNKNOWN_COMMAND carries a byte that is none of the eleven codes (R180); a DIRECT_ACTION_4_7_ARRIVAL carries an
action of 4..7 (R28). Every other term is a command. -/
def Instr.wellFormed : Instr → Bool
  | .unknownCommand code => !commandCodes.contains code
  | .directAction47Arrival _ _ action _ => decide (4 ≤ action.toNat)
  | _ => true

end Sys2Proof
end

