-- ==== Sys2Proof/Decode.lean ====
section
/-! DEFINITION. From bits to commands: the table's rows give no bits, and the panel's bytes are read by R179 and R180. -/

namespace Sys2Proof

/-- The command a word spells by the table's bits. No row of spec/opcode_table.json gives bits, so no word spells one (log
entry 4). -/
def decodeTableWord (_nbits _w : Nat) : Option Instr := none

/-- A two-byte argument, most significant byte first (R179). -/
def argument16 (hi lo : Byte) : BitVec 16 := hi ++ lo

/-- R179, R180: the command of one panel transaction, from the bytes the controller clocked while PSEL was low: the command
byte, its fixed number of argument bytes, and bytes that are ignored. Too few argument bytes is a transaction abandoned; no
byte at all is no transaction. -/
def panelCommand : List Byte → Option Instr
  | [] => none
  | code :: args =>
    some <|
      if code = 0x01 then .readStatus
      else if code = 0x02 then .readLanes
      else if code = 0x03 then .readLine
      else if code = 0x04 then .takeEvent
      else if code = 0x05 then .readFeed
      else if code = 0x10 then
        match args with
        | key :: action :: _ => .panelKey key action
        | _ => .transactionAbandoned
      else if code = 0x11 then .panelTrim
      else if code = 0x12 then .panelRestart
      else if code = 0x13 then
        match args with
        | arg :: _ => .panelFeed arg
        | _ => .transactionAbandoned
      else if code = 0x20 then
        match args with
        | mode :: l :: a :: g :: c :: clear :: _ => .setOrder mode l a g c clear
        | _ => .transactionAbandoned
      else if code = 0x21 then
        match args with
        | t1 :: t0 :: action :: a1 :: a0 :: _ => .sendDirect (argument16 t1 t0) action (argument16 a1 a0)
        | _ => .transactionAbandoned
      else .unknownCommand code

/-- R179, R180: the bytes of a panel command, code and arguments. -/
def panelBytes : Instr → Option (List Byte)
  | .readStatus => some [0x01]
  | .readLanes => some [0x02]
  | .readLine => some [0x03]
  | .takeEvent => some [0x04]
  | .readFeed => some [0x05]
  | .panelKey key action => some [0x10, key, action]
  | .panelTrim => some [0x11]
  | .panelRestart => some [0x12]
  | .panelFeed arg => some [0x13, arg]
  | .setOrder mode l a g c clear => some [0x20, mode, l, a, g, c, clear]
  | .sendDirect target action argument =>
    some [0x21, target.extractLsb' 8 8, target.extractLsb' 0 8, action, argument.extractLsb' 8 8,
      argument.extractLsb' 0 8]
  | .unknownCommand code => some [code]
  | _ => none

end Sys2Proof
end

