-- ==== Sys2Proof/Config.lean ====
section
/-! DEFINITION. The free values: choices the manual leaves open. Each is a constant with no body. -/

namespace Sys2Proof

/-- The blocks that post events (00_scope.md section 2.1). -/
inductive Block where
  | li | sq | fv | rl | fo | sa | vu | pp
  deriving DecidableEq, Repr

/-- R185: "Events posted at the same instant by different blocks may be appended in either order." Whether, at the n-th posting
instant, the posting that i others follow goes behind the event of another block that stands at the j-th place among those.
Nothing constrains it, and every interleaving of the blocks' postings is some choice of it. Log entry 5. -/
opaque Config.postsLater : Nat → Nat → Nat → Bool

/-- Whether, at the n-th posting instant, an address clash reaches the Own Ask before the adoption of the order whose frame
shows the clash, when that adoption would itself end the Own Ask. R83, R89 and R130 give no order; nothing constrains it.
Log entry 6. -/
opaque Config.clashFirst : Nat → Bool

/-- Whether a HOLD of the higher of two claimants, which leaves the lane with the lower, frees the other lanes of its sender.
R59 says that they become FREE; R52 says that "a frame that leaves a lane with its previous holder frees nothing". The rules
differ and no rule decides between them; nothing constrains it. Log entry 9. -/
opaque Config.higherClaimFrees : Bool

/-- Whether a chair whose muting flag is set, and which loses its lane to a lower address's HOLD, sends a YIELD(CONFLICT). R126
says so of every seat; R172 says that such a chair enters IDLE and sends no YIELD. The rules differ and no rule decides
between them; nothing constrains it. Log entry 26. -/
opaque Config.mutingChairYields : Bool

end Sys2Proof
end

