-- ==== Sys2Proof/Machine/State.lean ====
section
/-! DEFINITION. Everything the spec gives one TG-820 to hold, block by block, as plain data, and its value after reset. -/

namespace Sys2Proof.Machine

open Sys2Proof

/-! ## Names of values -/

/-- R95: the four modes, in code order (section 3.7). -/
inductive Mode where
  | openFloor | override | moderated | voice
  deriving DecidableEq, Repr

/-- R95: where the order record comes from. -/
inductive Origin where
  | profile | line
  deriving DecidableEq, Repr

/-- R106: the kind of an intended take and the took-by of a lane, in code order (R182). -/
inductive TakeKind where
  | key | line | grant | voice | priority
  deriving DecidableEq, Repr

/-- R30, R106: the reason of a YIELD, in code order. -/
inductive YieldReason where
  | key | time | voice | conflict | restart | priorityEnd
  deriving DecidableEq, Repr

/-- R32, R106: the cause of a press or of the cancel latch, and the reason of a WITHDRAW, in code order. -/
inductive Cause where
  | key | panel | restart
  deriving DecidableEq, Repr

/-- R83, R184: why the Own Ask ended, in code order. -/
inductive AskEnd where
  | withdrawn | taken | dropped | cleared | mode | restart | clash
  deriving DecidableEq, Repr

/-- R184: why an ask or a take was refused, in code order. -/
inductive Refused where
  | noLane | full | saturated | send
  deriving DecidableEq, Repr

/-- R156, R184: what aborted a trim, in code order. -/
inductive TrimAbort where
  | key | taking | restart
  deriving DecidableEq, Repr

/-- A timer of Gate Control or Seat Controls: STOPPED, RUNNING with the time it was started for, or (the gate delay
alone) EXPIRED (R158, R159, R175). -/
inductive Timer where
  | stopped
  | running (ms : Nat)
  | expired
  deriving DecidableEq, Repr

/-! ## Frames -/

/-- R21: the body fields of the seven frame kinds, as read. -/
inductive Body where
  | order (source : AddrBits) (sequence : BitVec 8) (mode : BitVec 2) (laneLimit : BitVec 4) (allowance : BitVec 8)
      (grace : BitVec 6) (capacity : BitVec 6) (clear : Bool)
  | direct (target : AddrBits) (action : BitVec 3) (argument : BitVec 13)
  | yield (lane : BitVec 3) (reason : BitVec 3)
  | take (lane : BitVec 3) (displace : Bool) (muting : Bool)
  | withdraw (reason : BitVec 2)
  | ask (refresh : Bool)
  | hold (elapsed : BitVec 16) (muting : Bool) (warned : Bool)
  deriving DecidableEq, Repr

/-- R17, R21: a frame's content: standing, key, sender and body. The class is the body's. -/
structure Frame where
  head : Header
  body : Body
  deriving DecidableEq, Repr

/-! ## LI: the Line Interface (chapter 1) -/

/-- Section 1.1: the line statuses. -/
inductive LineStatus where
  | idle | lead | arbitrating | sending | receiving | slot | stuck
  deriving DecidableEq, Repr

/-- R6, R8, R9: which part of a frame a bit to be sent belongs to: the lead, a field bit of the arbitration field, a stuff
bit, or a body or CRC bit. -/
inductive TxPart where
  | lead | field | stuff | data
  deriving DecidableEq, Repr

/-- One bit of the transmit shift state: its value (true is recessive, 1) and its part. -/
structure TxBit where
  value : Bool
  part : TxPart
  deriving DecidableEq, Repr

/-- The Line Interface's own state. -/
structure LineIf where
  /-- Section 1.1: the line status. -/
  status : LineStatus
  /-- R3: consecutive recessive line values, 0..10, in IDLE and in STUCK. -/
  idleCount : Nat
  /-- R18: consecutive dominant line values, 0..64. -/
  dominantRun : Nat
  /-- R13: bits of this station's objection burst still to be driven, 0..7. -/
  burstLeft : Nat
  /-- R5: lead bits read of the frame in progress, 0..4. -/
  leadBits : Nat
  /-- R6: the value of the current run of equal line values. -/
  runValue : Bool
  /-- R6: the length of the current run, 0..6. -/
  runLength : Nat
  /-- R5, R7: the receive frame buffer, the destuffed bits read so far, first bit first; the destuffed bit count is its
  length. -/
  rx : List Bool
  /-- R12: the CRC register. -/
  crc : BitVec 16
  /-- R16: the transmit shift state, the bits still to be sent. -/
  tx : List TxBit
  /-- R9: the sender has had a bit fault in this attempt. -/
  bitFault : Bool
  /-- R14: this station drives the slot dominant. -/
  objecting : Bool
  deriving DecidableEq, Repr

/-! ## SQ: the Send Queue (chapter 3) -/

/-- R36: the five send slots. -/
inductive SlotId where
  | order | direct | floor | askref | hold
  deriving DecidableEq, Repr

/-- R36: a frame in a slot and its attempt count, 0..3. -/
structure Slotted (α : Type) where
  content : α
  count : Nat
  deriving DecidableEq, Repr

/-- R102: the content of a new order. -/
structure OrderFields where
  mode : Mode
  laneLimit : Nat
  allowance : Nat
  grace : Nat
  capacity : Nat
  clear : Bool
  deriving DecidableEq, Repr

/-- R47: what a new order carries: the panel's content (R102), or the record's own at each restatement (R103). -/
inductive NewOrder where
  | fixed (o : OrderFields)
  | fromRecord
  deriving DecidableEq, Repr

/-- R47: the two kinds of ORDER in the ORDER slot. -/
inductive OrderSlot where
  | new (n : NewOrder)
  | repeated
  deriving DecidableEq, Repr

/-- R37: a DIRECT as pushed. -/
structure DirectFrame where
  target : AddrBits
  action : BitVec 3
  argument : BitVec 13
  deriving DecidableEq, Repr

/-- R44: what the FLOOR slot holds. A TAKE's content is the seat's intended take, an ASK's key is stamped at
restatement. -/
inductive FloorFrame where
  | take
  | ask
  | yield (lane : Fin 8) (reason : YieldReason)
  | withdraw (ticket : Nat) (reason : Cause)
  deriving DecidableEq, Repr

/-- R40: the frame in flight and the slot it came from. -/
structure Flight where
  slot : SlotId
  frame : Frame
  deriving DecidableEq, Repr

/-- The Send Queue's own state. -/
structure SendQ where
  /-- R36: the ORDER slot. -/
  order : Option (Slotted OrderSlot)
  /-- R47: the next-order place. -/
  nextOrder : Option NewOrder
  /-- R37: the DIRECT FIFO, head first, at most four frames. -/
  direct : List (Slotted DirectFrame)
  /-- R44: the FLOOR slot. -/
  floor : Option (Slotted FloorFrame)
  /-- R40: a FLOOR frame held until the attempt in flight ends. -/
  floorHeld : Option FloorFrame
  /-- R46: the attempt count of the refresh in the ASKREF slot, when it holds one. -/
  askref : Option Nat
  /-- R40: a refresh placement held during the flight of a refresh. -/
  askrefHeld : Bool
  /-- R45: the attempt count of the HOLD in the HOLD slot, when it holds one. -/
  hold : Option Nat
  /-- R40: a HOLD placement held during the flight of a HOLD. -/
  holdHeld : Bool
  /-- R40: the frame in flight. -/
  inFlight : Option Flight
  /-- R48: the repeat count, 0..3, kept at a chair. -/
  repeatCount : Nat
  deriving DecidableEq, Repr

/-! ## FV: the Floor View (chapter 4) -/

/-- R51: the fields of a HELD lane record. The muting field, absent at a non-chair, is false there. -/
structure HeldLane where
  holder : Nat
  standing : Role
  ticket : Nat
  age : Nat
  silence : Nat
  muting : Bool
  warned : Bool
  deriving DecidableEq, Repr

/-- R51: a lane record. -/
inductive Lane where
  | free
  | held (r : HeldLane)
  deriving DecidableEq, Repr

/-- R67: one entry of the mute source list. -/
structure MuteSource where
  chair : Nat
  silence : Nat
  deriving DecidableEq, Repr

/-! ## RL: the Request Line (chapter 5) -/

/-- R75: one entry of the line window. -/
structure Entry where
  asker : Nat
  ticket : Nat
  standing : Role
  silence : Nat
  deriving DecidableEq, Repr

/-- R79: the Own Ask; its ticket is 0 unless LIVE. -/
inductive OwnAsk where
  | none
  | pending
  | live (ticket : Nat)
  deriving DecidableEq, Repr

/-! ## FO: the Floor Order (chapter 6) -/

/-- R95: the order record. -/
structure OrderRec where
  mode : Mode
  laneLimit : Nat
  allowance : Nat
  grace : Nat
  capacity : Nat
  sequence : BitVec 8
  source : Nat
  origin : Origin
  deriving DecidableEq, Repr

/-! ## SA: the Seat Agent (chapter 7) -/

/-- R106: the intended take, present in TAKING. `grantor` is the granting chair's address, for kind GRANT. -/
structure IntendedTake where
  kind : TakeKind
  lane : Fin 8
  key : Nat
  displace : Bool
  muting : Bool
  mode : Mode
  grantor : Nat
  deriving DecidableEq, Repr

/-- R106: what goes with an own lane: the lane, its took-by and, at a chair, the muting flag. -/
structure OwnLane where
  lane : Fin 8
  tookBy : TakeKind
  muting : Bool
  deriving DecidableEq, Repr

/-- R106: the seat state, with the fields that are present in it. `ticks` counts the view ticks since SETTLING was
entered (R107). -/
inductive Seat where
  | settling (ticks : Nat)
  | idle
  | asking
  | waiting
  | taking (t : IntendedTake)
  | live (h : OwnLane)
  | warned (h : OwnLane)
  | yielding (h : OwnLane) (reason : YieldReason)
  | listen
  deriving DecidableEq, Repr

/-- R106 and R162: the latches and flags of the Seat Agent. -/
structure SeatFlags where
  /-- The cancel latch with its cause. -/
  cancelLatch : Option Cause
  restartPending : Bool
  pendingPress : Bool
  cough : Bool
  clash : Bool
  /-- R162: priority held, at a chair. -/
  priorityHeld : Bool
  deriving DecidableEq, Repr

/-! ## ST: the Speech Timer (chapter 8) -/

/-- R135: the phase that is counted. -/
inductive Counted where
  | running | grace
  deriving DecidableEq, Repr

/-- R135: the phase; PAUSED carries the held phase. -/
inductive Phase where
  | idle
  | counting (c : Counted)
  | paused (held : Counted)
  deriving DecidableEq, Repr

/-- R135: the timer record. `speechGrace` is 0 while the phase is IDLE. The speech tick period runs while `speaking`. -/
structure SpeechTimer where
  speaking : Bool
  phase : Phase
  remaining : Nat
  speechGrace : Nat
  correction : Int
  elapsed : Nat
  waitMeter : Nat
  lastWait : Nat
  lastSpeech : Nat
  deriving DecidableEq, Repr

/-! ## VU and GC: the Voice Unit and Gate Control (chapter 9) -/

/-- R147: a running trim: count and sum. -/
structure Trim where
  count : Nat
  sum : Nat
  deriving DecidableEq, Repr

/-- R147: the Voice Unit's record. `trim` is present while trim busy is set. -/
structure VoiceUnit where
  envelope : Nat
  threshold : Nat
  attack : Nat
  release : Nat
  voiced : Bool
  trim : Option Trim
  deriving DecidableEq, Repr

/-- R157 to R159: Gate Control's timers and the outputs it stores. GATE itself follows from other state (R158). -/
structure GateControl where
  laneSel : Fin 8
  gateDelay : Timer
  spkMute : Bool
  duckTail : Timer
  deriving DecidableEq, Repr

/-! ## SC: Seat Controls (chapter 11) -/

/-- R175: one key: its pin (true when low), its debounced state and its stability timer. -/
structure KeyState where
  pin : Bool
  pressed : Bool
  timer : Timer
  deriving DecidableEq, Repr

/-! ## PP: the Panel Port (chapter 11) -/

/-- R184: the events with their arguments. -/
inductive Event where
  | laneChanged (lane : Fin 8)
  | lineChanged
  | orderChanged (source : Nat)
  | muteChanged (active : Bool)
  | live (lane : Fin 8)
  | warned (lane : Fin 8)
  | cut (lane : Fin 8)
  | displaced (taker : Nat)
  | laneLost (by' : Nat)
  | askLive (ticket : Nat)
  | askEnded (reason : AskEnd)
  | askRefused (reason : Refused)
  | grantNoLane (chair : Nat)
  | sendFailed (cls : Nat)
  | lineStuck
  | lineClear
  | addressClash (own : Nat)
  | trimDone (threshold : Nat)
  | trimAborted (reason : TrimAbort)
  | restarted
  | overrun
  deriving DecidableEq, Repr

/-- R185: an event and its stamp. -/
structure EventRec where
  event : Event
  stamp : Nat
  deriving DecidableEq, Repr

/-- R185: an event posted at the instant in progress, with the block that posts it. -/
structure Posted where
  block : Block
  event : Event
  deriving DecidableEq, Repr

/-- R35: a frame record: the frame as read, and its own flag. -/
structure FeedRec where
  frame : Frame
  own : Bool
  deriving DecidableEq, Repr

/-- What the last byte of the response in progress does when it is clocked out with PSEL low (R183, R186, R187). -/
inductive LastByte where
  | nothing | clearOverflow | removeEvent | removeFeed
  deriving DecidableEq, Repr

/-- R179: a panel transaction from its execution to its end: command byte, status byte, the snapshot that follows it, what its
last byte does, and how many bits of the status and the snapshot have been clocked out. -/
structure Transaction where
  command : Byte
  status : Byte
  response : List Byte
  lastByte : LastByte
  clocked : Nat
  deriving DecidableEq, Repr

/-- The Panel Port's own state. -/
structure PanelPort where
  /-- R179: PSEL is low. -/
  psel : Bool
  /-- R179: the command shift state: the bits sampled on PDI since PSEL fell, first bit first, until the command they spell is
  executed; none outside that part of a transaction. -/
  shift : Option (List Bool)
  /-- R179: the bit that PDO carries while it is driven. -/
  pdoBit : Bool
  /-- R185: the event queue, oldest first, at most 16. -/
  events : List EventRec
  /-- R186: the head entry is being read. -/
  reading : Bool
  /-- R187: the feed queue, oldest first, at most 16. -/
  feed : List FeedRec
  /-- R181: the feed enable. -/
  feedOn : Bool
  /-- R187: the feed overflow flag. -/
  overflow : Bool
  /-- R183: the overflow-since-snapshot latch. -/
  overflowSince : Bool
  /-- R179: the transaction in progress, from its execution to the rise of PSEL. -/
  transaction : Option Transaction
  deriving DecidableEq, Repr

/-! ## The station -/

/-- What the world does at the pins that no command of the table stands for: one bit time of the floor line, with what the
other stations drive in it (true is recessive), or an edge of the panel port (R1, R179). PDI is given with the rising edge of
PCLK that samples it. -/
inductive PinEvent where
  | lineBit (others : Bool)
  | pselFall
  | pselRise
  | pclkRise (pdi : Bool)
  | pclkFall
  deriving DecidableEq, Repr

/-- One TG-820, its pins, and the queue of commands that wait. -/
structure State where
  /-- The commands that wait, first in first out. -/
  pending : List Instr
  /-- RST_N is held low (section 3.8). -/
  resetLow : Bool
  /-- What comes at the pins of the floor line and the panel port while no command waits, oldest first; when it runs out, bit
  times in which no other station drives follow one another (R1). The model's own field. -/
  pins : List PinEvent
  /-- R174: the latched station address, 0..1023. -/
  addr : Nat
  /-- R174: the latched role. -/
  role : Role
  /-- R174: the latched profile. -/
  profile : BitVec 2
  li : LineIf
  sq : SendQ
  /-- R51: the eight lane records. -/
  lanes : Vector Lane 8
  /-- R67: the mute source list, in the order of joining. -/
  mutes : List MuteSource
  /-- R63: the view tick counter. -/
  viewTicks : Nat
  /-- R75: the line window. -/
  window : List Entry
  /-- R77: the Ticket Mark. -/
  mark : Nat
  /-- R79: the Own Ask. -/
  ownAsk : OwnAsk
  /-- R95: the order record. -/
  order : OrderRec
  /-- R106: the seat state and the fields present in it. -/
  seat : Seat
  flags : SeatFlags
  st : SpeechTimer
  vu : VoiceUnit
  gc : GateControl
  /-- R175: the three keys. -/
  key1 : KeyState
  key2 : KeyState
  key3 : KeyState
  /-- R177: the refusal flash. -/
  flash : Timer
  pp : PanelPort
  /-- Events posted at the instant in progress, before R185 takes them; empty between steps. The model's own field. -/
  outbox : List Posted
  /-- How many free choices have been drawn. The model's own field (log entries 5 and 6). -/
  freeCount : Nat
  deriving DecidableEq, Repr

/-- Why a step can stop with a fault. No meaning of this model raises one (NOTES.md, Stops): the spec gives every command
an effect, so the type has no constructor. -/
inductive Fault where
  deriving DecidableEq, Repr

/-- Why a step can be refused. -/
inductive Refusal where
  /-- Raised by an arm of `exec` whose command has no meaning yet; safe, since nothing is claimed of it. No arm raises it
  now. -/
  | notModelled (mnemonic : String)
  deriving DecidableEq, Repr

/-- R20: LI at the release of RST_N. The run, lead and CRC registers are given values at each lead (R5, R12); before the
first they hold the values below (log entry 2). -/
def LineIf.reset : LineIf :=
  { status := .idle, idleCount := 0, dominantRun := 0, burstLeft := 0, leadBits := 0, runValue := true, runLength := 0,
    rx := [], crc := 0xFFFF, tx := [], bitFault := false, objecting := false }

/-- R50: the Send Queue at pin reset. -/
def SendQ.reset : SendQ :=
  { order := none, nextOrder := none, direct := [], floor := none, floorHeld := none, askref := none,
    askrefHeld := false, hold := none, holdHeld := false, inFlight := none, repeatCount := 0 }

/-- R134, R162: every flag clear. -/
def SeatFlags.reset : SeatFlags :=
  { cancelLatch := none, restartPending := false, pendingPress := false, cough := false, clash := false,
    priorityHeld := false }

/-- R146: the timer record at the release of RST_N. -/
def SpeechTimer.reset : SpeechTimer :=
  { speaking := false, phase := .idle, remaining := 0, speechGrace := 0, correction := 0, elapsed := 0, waitMeter := 0,
    lastWait := 0, lastSpeech := 0 }

/-- R161: Gate Control at the release of RST_N. -/
def GateControl.reset : GateControl :=
  { laneSel := 0, gateDelay := .stopped, spkMute := false, duckTail := .stopped }

/-- R189: a key at the release of RST_N whose pin is high. -/
def KeyState.reset : KeyState :=
  { pin := false, pressed := false, timer := .stopped }

/-- R189: the Panel Port at the release of RST_N, at a role other than LISTENER, with PSEL high. -/
def PanelPort.reset : PanelPort :=
  { psel := false, shift := none, pdoBit := false, events := [], reading := false, feed := [], feedOn := false,
    overflow := false, overflowSince := false, transaction := none }

/-- The station right after the release of RST_N (R20, R50, R73, R94, R105, R134, R146, R160, R161, R174, R189), with the
straps ADDR 1, ROLE DELEGATE, PROFILE 0, every key up and PSEL high: the spec fixes none of these pins (DESIGN CHOICE, log
entry 1). Any other setting follows a PIN_RESET_ASSERT and a PIN_RESET_RELEASE with other straps. -/
def State.reset : State :=
  { pending := []
    resetLow := false
    pins := []
    addr := 1
    role := .delegate
    profile := 0
    li := .reset
    sq := .reset
    lanes := #v[.free, .free, .free, .free, .free, .free, .free, .free]
    mutes := []
    viewTicks := 0
    window := []
    mark := 0
    ownAsk := .none
    order := { mode := .openFloor, laneLimit := 4, allowance := 0, grace := 0, capacity := 16, sequence := 0,
               source := 0, origin := .profile }
    seat := .settling 0
    flags := .reset
    st := .reset
    vu := { envelope := 0, threshold := 40, attack := 0, release := 0, voiced := false, trim := none }
    gc := .reset
    key1 := .reset
    key2 := .reset
    key3 := .reset
    flash := .stopped
    pp := .reset
    outbox := []
    freeCount := 0 }

end Sys2Proof.Machine
end

