-- ==== Sys2Proof/Machine/Profile.lean ====
section
/-! DEFINITION. The four profiles (R96) and the codes of the names of values (sections 3.7, R30, R32, R182, R184). -/

namespace Sys2Proof.Machine

open Sys2Proof

/-- R96: one row of the profile table. Times are in milliseconds; the release hold counts samples as well (R147). -/
structure Profile where
  mode : Mode
  laneLimit : Nat
  allowance : Nat
  grace : Nat
  capacity : Nat
  debounce : Nat
  gateDelay : Nat
  duckTail : Nat
  releaseHold : Nat
  threshold : Nat
  trimMargin : Nat
  deriving DecidableEq, Repr

/-- R96: the profile table. -/
def profileOf (p : BitVec 2) : Profile :=
  if p = 0 then
    { mode := .openFloor, laneLimit := 4, allowance := 0, grace := 0, capacity := 16, debounce := 16, gateDelay := 20,
      duckTail := 200, releaseHold := 1500, threshold := 40, trimMargin := 12 }
  else if p = 1 then
    { mode := .openFloor, laneLimit := 2, allowance := 18, grace := 30, capacity := 32, debounce := 16, gateDelay := 20,
      duckTail := 200, releaseHold := 1500, threshold := 40, trimMargin := 12 }
  else if p = 2 then
    { mode := .moderated, laneLimit := 1, allowance := 30, grace := 60, capacity := 32, debounce := 24, gateDelay := 30,
      duckTail := 250, releaseHold := 2000, threshold := 48, trimMargin := 16 }
  else
    { mode := .voice, laneLimit := 4, allowance := 0, grace := 0, capacity := 8, debounce := 10, gateDelay := 10,
      duckTail := 150, releaseHold := 1000, threshold := 56, trimMargin := 20 }

/-- The station's profile. -/
def State.prof (s : State) : Profile := profileOf s.profile

/-- R105: the order record at a reset: the profile order, sequence 0, source 0, origin PROFILE. -/
def profileOrder (p : BitVec 2) : OrderRec :=
  { mode := (profileOf p).mode, laneLimit := (profileOf p).laneLimit, allowance := (profileOf p).allowance,
    grace := (profileOf p).grace, capacity := (profileOf p).capacity, sequence := 0, source := 0, origin := .profile }

/-- Section 3.7: role and standing codes. -/
def roleCode : Role → Nat
  | .chair => 0
  | .priority => 1
  | .delegate => 2
  | .listener => 3

/-- Section 3.7, read back from two bits. -/
def roleOfCode (n : Nat) : Role :=
  match n with
  | 0 => .chair
  | 1 => .priority
  | 2 => .delegate
  | _ => .listener

/-- Section 3.7: mode codes. -/
def modeCode : Mode → Nat
  | .openFloor => 0
  | .override => 1
  | .moderated => 2
  | .voice => 3

/-- Section 3.7, read back from two bits. -/
def modeOfCode (n : Nat) : Mode :=
  match n with
  | 0 => .openFloor
  | 1 => .override
  | 2 => .moderated
  | _ => .voice

/-- R182: took-by codes. -/
def kindCode : TakeKind → Nat
  | .key => 0
  | .line => 1
  | .grant => 2
  | .voice => 3
  | .priority => 4

/-- R30: YIELD reason codes. -/
def yieldCode : YieldReason → Nat
  | .key => 0
  | .time => 1
  | .voice => 2
  | .conflict => 3
  | .restart => 4
  | .priorityEnd => 5

/-- R32: WITHDRAW reason codes. -/
def causeCode : Cause → Nat
  | .key => 0
  | .panel => 1
  | .restart => 2

/-- R184: ASK_ENDED arguments. -/
def askEndCode : AskEnd → Nat
  | .withdrawn => 0
  | .taken => 1
  | .dropped => 2
  | .cleared => 3
  | .mode => 4
  | .restart => 5
  | .clash => 6

/-- R184: ASK_REFUSED arguments. -/
def refusedCode : Refused → Nat
  | .noLane => 0
  | .full => 1
  | .saturated => 2
  | .send => 3

/-- R184: TRIM_ABORTED arguments. -/
def trimAbortCode : TrimAbort → Nat
  | .key => 0
  | .taking => 1
  | .restart => 2

/-- R184: the kind byte of an event. -/
def Event.code : Event → Nat
  | .laneChanged _ => 1
  | .lineChanged => 2
  | .orderChanged _ => 3
  | .muteChanged _ => 4
  | .live _ => 5
  | .warned _ => 6
  | .cut _ => 7
  | .displaced _ => 8
  | .laneLost _ => 9
  | .askLive _ => 10
  | .askEnded _ => 11
  | .askRefused _ => 12
  | .grantNoLane _ => 13
  | .sendFailed _ => 14
  | .lineStuck => 15
  | .lineClear => 16
  | .addressClash _ => 17
  | .trimDone _ => 18
  | .trimAborted _ => 19
  | .restarted => 20
  | .overrun => 21

/-- R184: the argument of an event. -/
def Event.arg : Event → Nat
  | .laneChanged l => l.val
  | .lineChanged => 0
  | .orderChanged a => a
  | .muteChanged b => if b then 1 else 0
  | .live l => l.val
  | .warned l => l.val
  | .cut l => l.val
  | .displaced a => a
  | .laneLost a => a
  | .askLive t => t
  | .askEnded r => askEndCode r
  | .askRefused r => refusedCode r
  | .grantNoLane a => a
  | .sendFailed c => c
  | .lineStuck => 0
  | .lineClear => 0
  | .addressClash a => a
  | .trimDone t => t
  | .trimAborted r => trimAbortCode r
  | .restarted => 0
  | .overrun => 0

/-- R182: seat state codes. -/
def Seat.code : Seat → Nat
  | .settling _ => 0
  | .idle => 1
  | .asking => 2
  | .waiting => 3
  | .taking _ => 4
  | .live _ => 5
  | .warned _ => 6
  | .yielding _ _ => 7
  | .listen => 8

/-- R182: speech phase codes. -/
def Phase.code : Phase → Nat
  | .idle => 0
  | .counting .running => 1
  | .counting .grace => 2
  | .paused _ => 3

/-- R182: origin codes. -/
def originCode : Origin → Nat
  | .profile => 0
  | .line => 1

/-- A lane field as a lane number. -/
def laneOf (b : BitVec 3) : Fin 8 := ⟨b.toNat, b.isLt⟩

/-- R174: the addresses a station may have, 1..1000. -/
def validAddress (a : Nat) : Bool := decide (1 ≤ a ∧ a ≤ 1000)

end Sys2Proof.Machine
end

