-- ==== Sys2Proof/Machine/Frames.lean ====
section
/-! DEFINITION. A frame on the line: its bits, its CRC, its stuffing, and a frame read back from its bits (R6, R11, R12,
R21). A bit is true when it is recessive (1). -/

namespace Sys2Proof.Machine

open Sys2Proof

/-- R11: the class code of a body. -/
def Body.cls : Body → Nat
  | .order .. => 0
  | .direct .. => 1
  | .yield .. => 2
  | .take .. => 3
  | .withdraw .. => 4
  | .ask .. => 5
  | .hold .. => 6

/-- R11: body length by class. Class 7 names no kind. -/
def bodyLength (cls : Nat) : Nat :=
  match cls with
  | 0 => 45
  | 1 => 26
  | 2 => 6
  | 3 => 5
  | 4 => 2
  | 5 => 1
  | 6 => 18
  | _ => 0

/-- R21: an n-bit field, most significant bit first. -/
def bitsMsb (n x : Nat) : List Bool :=
  match n with
  | 0 => []
  | k + 1 => x.testBit k :: bitsMsb k x

/-- The number a field spells, most significant bit first. -/
def natOfBits (bits : List Bool) : Nat :=
  bits.foldl (fun acc b => 2 * acc + (if b then 1 else 0)) 0

/-- R8, R39: the arbitration field read as one 31-bit number; the lower value wins. -/
def Frame.arbitration (f : Frame) : Nat :=
  ((f.body.cls * 4 + roleCode f.head.standing) * 65536 + f.head.key.toNat) * 1024 + f.head.sender.toNat

/-- R21: the bits of a body. -/
def Body.bits : Body → List Bool
  | .order source sequence mode l a g c clear =>
    bitsMsb 10 source.toNat ++ bitsMsb 8 sequence.toNat ++ bitsMsb 2 mode.toNat ++ bitsMsb 4 l.toNat ++ bitsMsb 8 a.toNat
      ++ bitsMsb 6 g.toNat ++ bitsMsb 6 c.toNat ++ [clear]
  | .direct target action argument => bitsMsb 10 target.toNat ++ bitsMsb 3 action.toNat ++ bitsMsb 13 argument.toNat
  | .yield lane reason => bitsMsb 3 lane.toNat ++ bitsMsb 3 reason.toNat
  | .take lane displace muting => bitsMsb 3 lane.toNat ++ [displace, muting]
  | .withdraw reason => bitsMsb 2 reason.toNat
  | .ask refresh => [refresh]
  | .hold elapsed muting warned => bitsMsb 16 elapsed.toNat ++ [muting, warned]

/-- R21: the arbitration field's 31 bits: class, standing, key, sender. -/
def Frame.arbBits (f : Frame) : List Bool :=
  bitsMsb 3 f.body.cls ++ bitsMsb 2 (roleCode f.head.standing) ++ bitsMsb 16 f.head.key.toNat
    ++ bitsMsb 10 f.head.sender.toNat

/-- R12: one covered bit into the CRC register: the register moves one place up, and positions 12, 5 and 0 are inverted
when the bit differs from the register's most significant bit. -/
def crcStep (crc : BitVec 16) (b : Bool) : BitVec 16 :=
  let shifted := crc <<< 1
  if b = crc.getMsbD 0 then shifted else shifted ^^^ 0x1021

/-- R12: the register over a list of bits, from all ones. -/
def crcOf (bits : List Bool) : BitVec 16 := bits.foldl crcStep 0xFFFF

/-- R12: the bits the CRC covers, from the first class bit through the last body bit. -/
def Frame.covered (f : Frame) : List Bool := f.arbBits ++ f.body.bits

/-- R21: class through CRC, before stuffing: what a receiver's buffer holds at the end of the frame. -/
def Frame.content (f : Frame) : List Bool := f.covered ++ bitsMsb 16 (crcOf f.covered).toNat

/-- The unstuffed bits of a frame from lead through CRC, each with its part (R21). -/
def Frame.unstuffed (f : Frame) : List TxBit :=
  [false, true, false, false].map (fun b => { value := b, part := .lead })
    ++ f.arbBits.map (fun b => { value := b, part := .field })
    ++ (f.body.bits ++ bitsMsb 16 (crcOf f.covered).toNat).map (fun b => { value := b, part := .data })

/-- The run of equal values after one more bit: R6 counts runs on the line values. -/
def nextRun (value : Bool) (length : Nat) (b : Bool) : Bool × Nat :=
  if b = value then (value, length + 1) else (b, 1)

/-- R6: after six consecutive equal values one stuff bit of the opposite value, itself the first bit of a new run. -/
def stuff (value : Bool) (length : Nat) (bits : List TxBit) : List TxBit :=
  match bits with
  | [] => []
  | b :: rest =>
    let run := nextRun value length b.value
    if run.2 = 6 then b :: { value := !run.1, part := .stuff } :: stuff (!run.1) 1 rest
    else b :: stuff run.1 run.2 rest

/-- R6, R21: what a sender drives from the first lead bit through the last CRC bit and any stuff bit due after it. -/
def Frame.image (f : Frame) : List TxBit := stuff true 0 f.unstuffed

/-- The fields of a body from its bits, by class (R21). -/
def parseBody (cls : Nat) (b : List Bool) : Option Body :=
  let field (at' n : Nat) : Nat := natOfBits ((b.drop at').take n)
  let flag (at' : Nat) : Bool := b.getD at' false
  match cls with
  | 0 =>
    some (.order (BitVec.ofNat 10 (field 0 10)) (BitVec.ofNat 8 (field 10 8)) (BitVec.ofNat 2 (field 18 2))
      (BitVec.ofNat 4 (field 20 4)) (BitVec.ofNat 8 (field 24 8)) (BitVec.ofNat 6 (field 32 6))
      (BitVec.ofNat 6 (field 38 6)) (flag 44))
  | 1 =>
    some (.direct (BitVec.ofNat 10 (field 0 10)) (BitVec.ofNat 3 (field 10 3)) (BitVec.ofNat 13 (field 13 13)))
  | 2 => some (.yield (BitVec.ofNat 3 (field 0 3)) (BitVec.ofNat 3 (field 3 3)))
  | 3 => some (.take (BitVec.ofNat 3 (field 0 3)) (flag 3) (flag 4))
  | 4 => some (.withdraw (BitVec.ofNat 2 (field 0 2)))
  | 5 => some (.ask (flag 0))
  | 6 => some (.hold (BitVec.ofNat 16 (field 0 16)) (flag 16) (flag 17))
  | _ => none

/-- R11: the frame in a receive buffer that holds class through CRC; none for class 7. The CRC itself is checked as it is
read (R12). -/
def parseFrame (rx : List Bool) : Option Frame :=
  let field (at' n : Nat) : Nat := natOfBits ((rx.drop at').take n)
  match parseBody (field 0 3) (rx.drop 31) with
  | some body =>
    some { head := { standing := roleOfCode (field 3 2), key := BitVec.ofNat 16 (field 5 16),
                     sender := BitVec.ofNat 10 (field 21 10) }, body := body }
  | none => none

end Sys2Proof.Machine
end

