-- ==== Sys2Proof/Machine/Operands.lean ====
section
/-! DEFINITION. The operands of an arrival: screening (R24 to R34), and the values of its fields. -/

namespace Sys2Proof.Machine

open Sys2Proof

/-- R24: the three verdicts. A clamped arrival acts with the clamped values. -/
inductive Verdict where
  | stands
  | clamped (f : Frame)
  | discarded
  deriving DecidableEq, Repr

/-- R25: the tests on the arbitration field that every arrival meets first. -/
def headPasses (f : Frame) : Bool :=
  validAddress f.head.sender.toNat && decide (f.head.standing ≠ .listener) &&
    match f.body with
    | .order .. => decide (f.head.standing = .chair)
    | .direct .. => decide (f.head.standing = .chair)
    | .withdraw .. => decide (f.head.standing ≠ .chair)
    | .ask .. => decide (f.head.standing ≠ .chair)
    | _ => true

/-- R26, R28, R30, R32, R33, R34: the discard tests of each kind. -/
def bodyPasses (f : Frame) : Bool :=
  match f.body with
  | .order source .. => decide (f.head.key = 0) && validAddress source.toNat
  | .direct target action _ =>
    decide (f.head.key = 0) && decide (target.toNat ≤ 1000) && decide (action.toNat ≤ 3) &&
      !(decide (action = 1) && decide (target = 0))
  | .yield lane _ => decide (f.head.key.toNat = lane.toNat)
  | .take .. => true
  | .withdraw .. => decide (f.head.key ≠ 0)
  | .ask .. => decide (f.head.key ≠ 0)
  | .hold .. => decide (f.head.key.toNat ≤ 7)

/-- R27: the lane limit as taken. -/
def clampLaneLimit (l : BitVec 4) : BitVec 4 := if l = 0 then 1 else if l.toNat ≤ 8 then l else 8

/-- R27: the capacity as taken. -/
def clampCapacity (c : BitVec 6) : BitVec 6 := if c = 0 then 1 else if c.toNat ≤ 32 then c else 32

/-- R27: the grace as taken. -/
def clampGrace (g : BitVec 6) : BitVec 6 := if g.toNat ≤ 60 then g else 60

/-- R29: an EXTEND argument of -4096 is taken as -4095. -/
def clampArgument (a : BitVec 13) : BitVec 13 := if a = 0x1000 then 0x1001 else a

/-- The body with the clamped and "read as" values: R27, R29, R30, R31, R32 and R34. -/
def clampBody (standing : Role) (b : Body) : Body :=
  match b with
  | .order source sequence mode l a g c clear =>
    .order source sequence mode (clampLaneLimit l) a (clampGrace g) (clampCapacity c) clear
  | .direct target action argument => if action = 2 then .direct target action (clampArgument argument) else b
  | .yield lane reason => if reason.toNat ≤ 5 then b else .yield lane 0
  | .take lane displace muting => .take lane displace (muting && decide (standing = .chair))
  | .withdraw reason => if reason.toNat ≤ 2 then b else .withdraw 0
  | .ask _ => b
  | .hold elapsed muting warned => .hold elapsed (muting && decide (standing = .chair)) warned

/-- R24: the verdict on an arrival. -/
def screen (f : Frame) : Verdict :=
  if headPasses f && bodyPasses f then
    let b := clampBody f.head.standing f.body
    if b = f.body then .stands else .clamped { f with body := b }
  else .discarded

/-- R24, R53, R84, R97: the frame the floor blocks act on: as read when it stands, with the clamped values when it is
clamped, none when it is discarded after acceptance. -/
def actingFrame (f : Frame) : Option Frame :=
  match screen f with
  | .stands => some f
  | .clamped g => some g
  | .discarded => none

/-- Section 3.6: the order of the line, by (ticket, address). -/
def pairBefore (t a t' a' : Nat) : Bool := decide (t < t' ∨ (t = t' ∧ a < a'))

end Sys2Proof.Machine
end

