-- ==== Sys2Proof/Machine/Flags.lean ====
section
/-! DEFINITION. What follows from the state at the instant it is read: the counts and selections of the Floor View (R70,
R71), the rank (R91), mute active (R69), and the output pins and lamps (R2, R158, R176 to R178, R188). None of it is
stored. -/

namespace Sys2Proof.Machine

open Sys2Proof

/-! ## Lanes -/

/-- The lane numbers in ascending order. -/
def laneNumbers : List (Fin 8) := [0, 1, 2, 3, 4, 5, 6, 7]

/-- Whether a lane record is FREE. -/
def Lane.isFree : Lane → Bool
  | .free => true
  | .held _ => false

/-- The holder of a HELD lane. -/
def Lane.holder? : Lane → Option Nat
  | .free => none
  | .held r => some r.holder

/-- Whether a lane record is HELD with a standing. -/
def Lane.hasStanding (standing : Role) : Lane → Bool
  | .free => false
  | .held r => decide (r.standing = standing)

/-- R70: the free list, F. -/
def State.freeLanes (s : State) : List (Fin 8) := laneNumbers.filter fun i => s.lanes[i].isFree

/-- R70: n. -/
def State.numFree (s : State) : Nat := s.freeLanes.length

/-- R70: d. -/
def State.delegateLanes (s : State) : Nat := (laneNumbers.filter fun i => s.lanes[i].hasStanding .delegate).length

/-- Section 3.9: f, the free delegate room: L - d when L > d, otherwise 0. -/
def State.room (s : State) : Nat := s.order.laneLimit - s.delegateLanes

/-- R71: whether lane i is a candidate for the oldest lane, with its age. -/
def State.oldestCandidate (s : State) (standings : List Role) (i : Fin 8) : Option Nat :=
  match s.lanes[i] with
  | .free => none
  | .held r => if r.standing ∈ standings ∧ r.holder ≠ s.addr then some r.age else none

/-- R71: the oldest lane within a set of standings: the greatest age, on equal age the lowest lane number. -/
def State.oldestLane (s : State) (standings : List Role) : Option (Fin 8) :=
  (laneNumbers.foldl (fun best i =>
    match s.oldestCandidate standings i with
    | none => best
    | some age =>
      match best with
      | none => some (i, age)
      | some (j, age') => if age' < age then some (i, age) else some (j, age')) none).map Prod.fst

/-! ## Mute, line and seat -/

/-- R69: mute active. -/
def State.muteActive (s : State) : Bool := !s.mutes.isEmpty

/-- R91: the rank a ticket has in this station's window. -/
def State.rankOf (s : State) (ticket : Nat) : Nat :=
  (s.window.filter fun e => pairBefore e.ticket e.asker ticket s.addr).length

/-- R91: the rank, defined while the Own Ask is LIVE. -/
def State.rank? (s : State) : Option Nat :=
  match s.ownAsk with
  | .live t => some (s.rankOf t)
  | _ => none

/-- R106: the own lane and what goes with it, in LIVE, WARNED and YIELDING. -/
def Seat.own? : Seat → Option OwnLane
  | .live h => some h
  | .warned h => some h
  | .yielding h _ => some h
  | _ => none

/-- LIVE or WARNED, with what goes with the own lane. -/
def Seat.speaking? : Seat → Option OwnLane
  | .live h => some h
  | .warned h => some h
  | _ => none

/-- Whether the seat is in SETTLING. -/
def Seat.isSettling : Seat → Bool
  | .settling _ => true
  | _ => false

/-- Whether the seat is in TAKING. -/
def Seat.isTaking : Seat → Bool
  | .taking _ => true
  | _ => false

/-- Whether the station's role is CHAIR. -/
def State.isChair (s : State) : Bool := decide (s.role = .chair)

/-- Whether the station's role is PRIORITY or DELEGATE. -/
def State.isDelegateSeat (s : State) : Bool := decide (s.role = .priority ∨ s.role = .delegate)

/-- R64: whether the record of lane i is own-kept. -/
def State.ownKept (s : State) (i : Fin 8) : Bool :=
  decide (s.lanes[i].holder? = some s.addr) && decide (s.seat.own?.map OwnLane.lane = some i)

/-- R174: the invalid-address flag. -/
def State.invalidAddress (s : State) : Bool := !validAddress s.addr

/-- R147: level. -/
def State.level (s : State) : Nat := s.vu.envelope / 256

/-- R147: the lower threshold Tl. -/
def State.lowerThreshold (s : State) : Nat := max 1 (s.vu.threshold - 6)

/-- R40: whether a slot's frame is in flight. -/
def State.flying (s : State) (slot : SlotId) : Bool :=
  match s.sq.inFlight with
  | some fl => decide (fl.slot = slot)
  | none => false

/-- Whether this station's own TAKE is in flight. -/
def State.takeFlying (s : State) : Bool :=
  match s.sq.inFlight with
  | some { slot := .floor, frame := { body := .take .., .. } } => true
  | _ => false

/-- Whether this station's new ASK is in flight. -/
def State.askFlying (s : State) : Bool :=
  match s.sq.inFlight with
  | some { slot := .floor, frame := { body := .ask _, .. } } => true
  | _ => false

/-- R37: whether the DIRECT FIFO holds four frames. -/
def State.fifoFull (s : State) : Bool := decide (4 ≤ s.sq.direct.length)

/-- Whether LI can take part in a frame of another station: not STUCK, no own frame in flight, no objection burst under
way (R3, R13, R17, R18). An arrival or a discard comes only then. -/
def State.receives (s : State) : Bool :=
  decide (s.li.status ≠ .stuck) && s.sq.inFlight.isNone && decide (s.li.burstLeft = 0)

/-! ## Pins -/

/-- R1, R2: the value this station puts on the line in the next bit (true is recessive): its objection burst, the next bit
of its frame unless it has had a bit fault, its objection in the slot, and recessive otherwise. A station in LISTEN or with
RST_N low never drives. -/
def State.flTx (s : State) : Bool :=
  if s.resetLow || decide (s.seat = .listen) then true
  else if 0 < s.li.burstLeft then false
  else match s.li.status with
    | .lead | .arbitrating | .sending =>
      if s.li.bitFault then true else match s.li.tx with | [] => true | b :: _ => b.value
    | .slot => !s.li.objecting
    | _ => true

/-- R158: GATE is open. -/
def State.gateOpen (s : State) : Bool :=
  !s.resetLow && s.seat.speaking?.isSome && decide (s.gc.gateDelay = .expired) && !s.flags.cough
    && (s.isChair || !s.muteActive)

/-- R176: the lamp patterns. -/
inductive Lamp where
  | off | on | blinkSlow | blinkFast
  deriving DecidableEq, Repr

/-- R176, R178: RING. -/
def State.ring (s : State) : Lamp :=
  if s.resetLow then .off
  else if s.flags.clash then .blinkFast
  else match s.seat with
    | .live _ => if s.muteActive && !s.isChair then .blinkSlow else .on
    | .warned _ => if s.muteActive && !s.isChair then .blinkSlow else .blinkFast
    | _ => .off

/-- R177, R178: REQ. -/
def State.req (s : State) : Lamp :=
  if s.resetLow then .off
  else if s.flags.clash then .blinkFast
  else match s.seat with
    | .settling _ => .off
    | .listen => .off
    | seat =>
      if s.flash ≠ .stopped then .blinkFast
      else match seat with
        | .asking => .on
        | .waiting => if s.rank? = some 0 then .blinkSlow else .on
        | _ => .off

/-- R188: ATTN. -/
def State.attn (s : State) : Bool := !s.resetLow && (!s.pp.events.isEmpty || decide (8 ≤ s.pp.feed.length))

end Sys2Proof.Machine
end

