-- ==== Sys2Proof/Machine/Ops.lean ====
section
/-! DEFINITION. The shared operations over the state: posting an event (R185), offering a frame to the feed (R187), the
seat state's changes with what Gate Control and the trim do at them (R156, R159), speech start and end (R136, R144), the
end of the Own Ask (R83, R145), and placing frames in the send slots (R37, R40, R44 to R48). -/

namespace Sys2Proof.Machine

open Sys2Proof

/-! ## Events -/

/-- A block posts an event at the instant in progress. -/
def post (b : Block) (e : Event) (s : State) : State := { s with outbox := s.outbox ++ [{ block := b, event := e }] }

/-- R185: the events that only say "look again" and are merged. -/
def Event.merges : Event → Bool
  | .laneChanged _ => true
  | .lineChanged => true
  | _ => false

/-- R185: the queue after one posting. -/
def enqueueEvent (stamp : Nat) (reading : Bool) (q : List EventRec) (e : Event) : List EventRec :=
  if q.any (fun r => r.event = .overrun) then q
  else if e.merges && (if reading then q.tail else q).any (fun r => r.event = e) then q
  else if q.length < 16 then q ++ [{ event := e, stamp := stamp }]
  else q.dropLast ++ [{ event := .overrun, stamp := stamp }]

/-- R185: whether p, which i postings follow, stays ahead of q, the j-th of those as they are ordered, at the n-th posting instant:
a block's own postings keep their order, and any two of different blocks take either order (log entry 5). -/
def Posted.staysAhead (n i j : Nat) (p q : Posted) : Bool := decide (p.block = q.block) || !Config.postsLater n i j

/-- p put into an ordered list of postings, of which the first stands at the place given. -/
def insertPosted (n i : Nat) (p : Posted) : Nat → List Posted → List Posted
  | _, [] => [p]
  | j, q :: rest => if p.staysAhead n i j q then p :: q :: rest else q :: insertPosted n i p (j + 1) rest

/-- The postings of one instant in the order in which the queue takes them: an interleaving of the blocks' own, any of which is
possible. -/
def orderPosted (n : Nat) : List Posted → List Posted
  | [] => []
  | p :: rest => insertPosted n rest.length p 0 (orderPosted n rest)

/-- The end of an instant: the queue takes what was posted, stamped with the view tick counter (R185). -/
def flush (s : State) : State :=
  match s.outbox with
  | [] => s
  | ps =>
    { s with
      pp := { s.pp with
        events := (orderPosted s.freeCount ps).foldl (fun q p => enqueueEvent s.viewTicks s.pp.reading q p.event)
          s.pp.events }
      outbox := []
      freeCount := s.freeCount + 1 }

/-- A command as one step: while RST_N is low nothing but the reset pin acts (R20, R174, R179); otherwise its effect, and
then the events it posted. -/
def event (f : State → State) (s : State) : Host.Outcome State Fault Refusal :=
  .next (if s.resetLow then s else flush (f s))

/-- R187: an accepted frame is offered to the feed. -/
def offerFeed (own : Bool) (f : Frame) (s : State) : State :=
  if !s.pp.feedOn then s
  else if s.pp.feed.length < 16 then
    { s with pp := { s.pp with feed := s.pp.feed ++ [{ frame := f, own := own }] } }
  else { s with pp := { s.pp with overflow := true, overflowSince := true } }

/-- R177: the Seat Agent signals a refusal to Seat Controls, which start or restart the 2 s flash. -/
def signalRefusal (s : State) : State := { s with flash := .running 2000 }

/-- R112: a refusal posted and signalled. -/
def refuse (r : Refused) (s : State) : State := signalRefusal (post .sa (.askRefused r) s)

/-! ## Voice Unit and Gate Control at changes of the seat -/

/-- R156: a running trim is aborted. -/
def abortTrim (r : TrimAbort) (s : State) : State :=
  match s.vu.trim with
  | none => s
  | some _ => post .vu (.trimAborted r) { s with vu := { s.vu with trim := none } }

/-- R159: the duck tail starts when the seat leaves LIVE, WARNED and YIELDING for IDLE or LISTEN while SPK_MUTE is
asserted, unless it runs already. -/
def startTail (s : State) : State :=
  if s.gc.spkMute ∧ s.gc.duckTail = .stopped then
    { s with gc := { s.gc with duckTail := .running s.prof.duckTail } }
  else s

/-- The seat enters IDLE, from any state. -/
def enterIdle (s : State) : State :=
  let s' := { s with seat := .idle }
  if s.seat.own?.isSome then startTail s' else s'

/-- The seat enters LISTEN, from any state. -/
def enterListen (s : State) : State :=
  let s' := { s with seat := .listen }
  if s.seat.own?.isSome then startTail s' else s'

/-- The seat enters TAKING, which aborts a running trim (R156). -/
def enterTaking (t : IntendedTake) (s : State) : State := abortTrim .taking { s with seat := .taking t }

/-! ## Speech -/

/-- R136: the timer at speech start. -/
def speechStart (s : State) : State :=
  let timed := s.isDelegateSeat && decide (s.order.allowance ≠ 0)
  { s with st := { s.st with
      speaking := true
      elapsed := 0
      correction := 0
      phase := if timed then (if s.muteActive then .paused .running else .counting .running) else .idle
      remaining := if timed then s.order.allowance * 10 else 0
      speechGrace := if timed then s.order.grace else 0 } }

/-- R144 and R158: speech end at the Speech Timer and at Gate Control. A speech end that finds speaking clear changes
nothing at the timer. -/
def speechEnd (s : State) : State :=
  let st := if s.st.speaking then
      { s.st with lastSpeech := s.st.elapsed, speaking := false, phase := .idle, remaining := 0, speechGrace := 0,
                  correction := 0, elapsed := 0 }
    else s.st
  { s with st := st, gc := { s.gc with gateDelay := .stopped } }

/-- R141: mute active has changed to the value given. -/
def timerMute (active : Bool) (s : State) : State :=
  match s.st.phase, active with
  | .counting c, true => { s with st := { s.st with phase := .paused c } }
  | .paused c, false => { s with st := { s.st with phase := .counting c } }
  | _, _ => s

/-- R157 to R159: Gate Control at a speech LIVE entry on a lane. -/
def gateSpeech (lane : Fin 8) (s : State) : State :=
  { s with gc := { laneSel := lane, gateDelay := .running s.prof.gateDelay, spkMute := true, duckTail := .stopped } }

/-! ## The Own Ask -/

/-- R83, R145: the Own Ask ends with a reason, when it is PENDING or LIVE. -/
def endOwnAsk (r : AskEnd) (s : State) : State :=
  if s.ownAsk = .none then s
  else
    let st := { s.st with lastWait := if r = .taken then s.st.waitMeter else s.st.lastWait, waitMeter := 0 }
    post .rl (.askEnded r) { s with ownAsk := .none, st := st }

/-- R83: the Own Ask ends with a refusal instead of a reason: nothing is posted by RL. -/
def refuseOwnAsk (s : State) : State := { s with ownAsk := .none, st := { s.st with waitMeter := 0 } }

/-! ## Placing frames -/

/-- R40, R44: the Seat Agent places a FLOOR frame: in the slot with count 0, or held while the slot's frame is in
flight. -/
def placeFloor (c : FloorFrame) (s : State) : State :=
  if s.flying .floor then { s with sq := { s.sq with floorHeld := some c } }
  else { s with sq := { s.sq with floor := some { content := c, count := 0 } } }

/-- The Seat Agent takes its own pending FLOOR frame out: the held one while another frame of the slot is in flight. -/
def removeFloor (s : State) : State :=
  if s.flying .floor then { s with sq := { s.sq with floorHeld := none } }
  else { s with sq := { s.sq with floor := none } }

/-- R45: a HOLD is placed while the seat is LIVE or WARNED: held during the flight of a HOLD, and not added to one that is
pending. -/
def placeHold (s : State) : State :=
  if s.seat.speaking?.isNone || s.flags.restartPending then s
  else if s.flying .hold then { s with sq := { s.sq with holdHeld := true } }
  else { s with sq := { s.sq with hold := some (s.sq.hold.getD 0) } }

/-- R46: a refresh is placed while the Own Ask is LIVE, in the same manner. -/
def placeRefresh (s : State) : State :=
  match s.ownAsk with
  | .live _ =>
    if s.flags.restartPending then s
    else if s.flying .askref then { s with sq := { s.sq with askrefHeld := true } }
    else { s with sq := { s.sq with askref := some (s.sq.askref.getD 0) } }
  | _ => s

/-- R47: a new order is placed: in the next-order place while the ORDER slot's frame is in flight, else in the slot with
count 0. -/
def placeOrder (n : NewOrder) (s : State) : State :=
  if s.flying .order then { s with sq := { s.sq with nextOrder := some n } }
  else { s with sq := { s.sq with order := some { content := .new n, count := 0 } } }

/-- R48, R104: the point of a repeat: nothing while the slot or the next-order place holds a frame; a new order with the
record's content while the origin is PROFILE; a repeat otherwise. -/
def placeRepeat (s : State) : State :=
  if s.sq.order.isSome || s.sq.nextOrder.isSome then s
  else if s.order.origin = .profile then placeOrder .fromRecord s
  else { s with sq := { s.sq with order := some { content := .repeated, count := 0 } } }

/-- R37: a DIRECT pushed at the tail with count 0, on a FIFO that is not full. -/
def pushDirect (d : DirectFrame) (s : State) : State :=
  { s with sq := { s.sq with direct := s.sq.direct ++ [{ content := d, count := 0 }] } }

/-! ## Leaving a lane, taking a lane -/

/-- R119, R126, R128, R131, R166: a LIVE or WARNED seat ends its speech, places a YIELD for its lane and enters
YIELDING. -/
def yieldLane (r : YieldReason) (s : State) : State :=
  match s.seat.speaking? with
  | none => s
  | some h =>
    let s1 := placeFloor (.yield h.lane r) (speechEnd s)
    { s1 with seat := .yielding h r }

/-- R112: a take is carried out: the intended take recorded, the TAKE placed, TAKING entered. -/
def beginTake (t : IntendedTake) (s : State) : State := placeFloor .take (enterTaking t s)

/-- R163: the muting flag of a take of a kind, as it stands now. -/
def State.takeMuting (s : State) (k : TakeKind) : Bool :=
  match k with
  | .priority => true
  | .key => s.isChair && s.flags.priorityHeld
  | _ => false

/-- The TAKE leaves the FLOOR slot and the seat goes back to the line, for kind LINE or GRANT, or to IDLE (R119, R120,
R124). -/
def leaveTake (t : IntendedTake) (s : State) : State :=
  match t.kind with
  | .line | .grant => { removeFloor s with seat := .waiting }
  | _ => enterIdle (removeFloor s)

end Sys2Proof.Machine
end

