-- ==== Sys2Proof/Machine/FloorView.lean ====
section
/-! DEFINITION. The Floor View (chapter 4): the lane records, the mute source list and the view tick. -/

namespace Sys2Proof.Machine

open Sys2Proof

/-- Every lane record changed by a function of its number and itself. -/
def mapLanes (f : Fin 8 → Lane → Lane) (v : Vector Lane 8) : Vector Lane 8 :=
  #v[f 0 v[0], f 1 v[1], f 2 v[2], f 3 v[3], f 4 v[4], f 5 v[5], f 6 v[6], f 7 v[7]]

/-- A lane record without a holder that is given: FREE when that address held it. -/
def Lane.without (a : Nat) (l : Lane) : Lane := if l.holder? = some a then .free else l

/-- R52, R54, R57: lane n becomes HELD with the record given, and any other lane of the same holder becomes FREE. -/
def claimLane (n : Fin 8) (r : HeldLane) (v : Vector Lane 8) : Vector Lane 8 :=
  mapLanes (fun i l => if i = n then .held r else l.without r.holder) v

/-- R59 against R52: what a HOLD of the higher claimant a, which leaves lane n with the lower, does to the lanes that a held:
they become FREE (R59) or stay (R52), a free value (log entry 9). -/
def freeOthers (n : Fin 8) (a : Nat) (v : Vector Lane 8) : Vector Lane 8 :=
  mapLanes (fun i l => if (i ≠ n ∧ l.holder? = some a) ∧ Config.higherClaimFrees then .free else l) v

/-- R54: the lane records after a TAKE. -/
def takeLanes (s : Nat) (standing : Role) (ticket : Nat) (n : Fin 8) (muting : Bool) (v : Vector Lane 8) :
    Vector Lane 8 :=
  claimLane n { holder := s, standing := standing, ticket := ticket, age := 0, silence := 0,
                muting := muting && decide (standing = .chair), warned := false } v

/-- R56: the lane records after a YIELD. -/
def yieldLanes (s : Nat) (n : Fin 8) (v : Vector Lane 8) : Vector Lane 8 :=
  mapLanes (fun i l => if i = n then l.without s else l) v

/-- R57 to R59: the lane records after a HOLD: learnt when FREE, refreshed when the sender holds the lane, and otherwise
kept by the lower address. -/
def holdLanes (s : Nat) (standing : Role) (n : Fin 8) (elapsed : Nat) (muting warned : Bool) (v : Vector Lane 8) :
    Vector Lane 8 :=
  let learnt : HeldLane :=
    { holder := s, standing := standing, ticket := 0, age := elapsed, silence := 0,
      muting := muting && decide (standing = .chair), warned := warned }
  match v[n] with
  | .free => claimLane n learnt v
  | .held r =>
    if r.holder = s then claimLane n { learnt with ticket := r.ticket } v
    else if s < r.holder then claimLane n learnt v
    else freeOthers n s v

/-- R61: the lane records after a CUT: target 0 names every PRIORITY and DELEGATE lane. -/
def cutLanes (target : Nat) (v : Vector Lane 8) : Vector Lane 8 :=
  mapLanes (fun _ l => match l with
    | .free => .free
    | .held r =>
      if (r.standing = .priority ∨ r.standing = .delegate) ∧ (target = 0 ∨ r.holder = target) then .free else l) v

/-- R62: a record's state, holder or warned flag has changed. -/
def Lane.reportable (a b : Lane) : Bool :=
  match a, b with
  | .free, .free => false
  | .held r, .held r' => decide (r.holder ≠ r'.holder ∨ r.warned ≠ r'.warned)
  | _, _ => true

/-- R62: the LANE_CHANGED events of a change of the records, one for each lane changed. -/
def laneEvents (v w : Vector Lane 8) : List Posted :=
  (laneNumbers.filter fun i => v[i].reportable w[i]).map fun i => { block := .fv, event := .laneChanged i }

/-- R62: the records take new values, and the changes are posted. -/
def setLanes (w : Vector Lane 8) (s : State) : State :=
  { s with lanes := w, outbox := s.outbox ++ laneEvents s.lanes w }

/-- R62: any lane's state or holder differs between two views: the view change signal. -/
def viewMoved (v w : Vector Lane 8) : Bool := laneNumbers.any fun i => decide (v[i].holder? ≠ w[i].holder?)

/-- R67: a muting TAKE or HOLD from a chair: its entry is refreshed, or it joins when there is room. -/
def muteJoin (chair : Nat) (l : List MuteSource) : List MuteSource :=
  if l.any (fun m => m.chair = chair) then
    l.map fun m => if m.chair = chair then { m with silence := 0 } else m
  else if l.length < 4 then l ++ [{ chair := chair, silence := 0 }]
  else l

/-- R68: a chair leaves the list. -/
def muteLeave (chair : Nat) (l : List MuteSource) : List MuteSource := l.filter fun m => m.chair ≠ chair

/-- R69: the list takes a new value; a change between empty and non-empty is posted and reaches the Speech Timer. -/
def setMutes (l : List MuteSource) (s : State) : State :=
  let s' := { s with mutes := l }
  if l.isEmpty = s.mutes.isEmpty then s'
  else timerMute (!l.isEmpty) (post .fv (.muteChanged (!l.isEmpty)) s')

/-- R53 to R61: FV's part of an arrival, on the screened frame. -/
def viewArrival (f : Frame) (s : State) : State :=
  let a := f.head.sender.toNat
  let chair := decide (f.head.standing = .chair)
  match f.body with
  | .take lane _ muting =>
    let s1 := setLanes (takeLanes a f.head.standing f.head.key.toNat (laneOf lane) muting s.lanes) s
    if chair then setMutes (if muting then muteJoin a s1.mutes else muteLeave a s1.mutes) s1 else s1
  | .yield lane _ =>
    let s1 := setLanes (yieldLanes a (laneOf lane) s.lanes) s
    if chair then setMutes (muteLeave a s1.mutes) s1 else s1
  | .hold elapsed muting warned =>
    let s1 := setLanes
      (holdLanes a f.head.standing (Fin.ofNat 8 f.head.key.toNat) elapsed.toNat muting warned s.lanes) s
    if chair then setMutes (if muting then muteJoin a s1.mutes else muteLeave a s1.mutes) s1 else s1
  | .direct target action _ =>
    if action = 0 then setLanes (cutLanes target.toNat s.lanes) s else s
  | _ => s

/-- R63: a lane record at a view tick: the age saturates, the silence of a record that is not own-kept rises, and at 3 the
lane lapses. -/
def tickLane (ownKept : Bool) : Lane → Lane
  | .free => .free
  | .held r =>
    let aged := { r with age := min 65535 (r.age + 1) }
    if ownKept then .held aged
    else if 3 ≤ r.silence + 1 then .free
    else .held { aged with silence := r.silence + 1 }

/-- R63: the counter, from 65535 to 0. -/
def nextTick (n : Nat) : Nat := if 65535 ≤ n then 0 else n + 1

/-- R68: the mute source list at a view tick. -/
def tickMutes (l : List MuteSource) : List MuteSource :=
  (l.map fun m => { m with silence := m.silence + 1 }).filter fun m => m.silence < 3

/-- R63, R64, R68: FV's part of a view tick. -/
def viewTickView (s : State) : State :=
  let s1 := { s with viewTicks := nextTick s.viewTicks }
  let s2 := setLanes (mapLanes (fun i l => tickLane (s.ownKept i) l) s.lanes) s1
  setMutes (tickMutes s.mutes) s2

end Sys2Proof.Machine
end

