-- ==== Sys2Proof/Machine/RequestLine.lean ====
section
/-! DEFINITION. The Request Line (chapter 5): the line window, the Ticket Mark and the Own Ask. -/

namespace Sys2Proof.Machine

open Sys2Proof

/-- R75: an entry put at the place its (ticket, address) pair gives. -/
def insertEntry (e : Entry) : List Entry → List Entry
  | [] => [e]
  | x :: rest => if pairBefore e.ticket e.asker x.ticket x.asker then e :: x :: rest else x :: insertEntry e rest

/-- The window without an asker's entry. -/
def removeAsker (a : Nat) (w : List Entry) : List Entry := w.filter fun e => e.asker ≠ a

/-- R85: the window after an ASK from another station: refreshed in place, or replaced, or inserted under R76, which keeps
the 32 lowest pairs. -/
def askWindow (e : Entry) (w : List Entry) : List Entry :=
  if w.any (fun x => x.asker = e.asker ∧ x.ticket = e.ticket) then w.map fun x => if x.asker = e.asker then e else x
  else (insertEntry e (removeAsker e.asker w)).take 32

/-- R86: the window after a WITHDRAW. -/
def withdrawWindow (a t : Nat) (w : List Entry) : List Entry := w.filter fun e => ¬ (e.asker = a ∧ e.ticket = t)

/-- R92: the pairs of a window: what an insertion, removal, eviction or replacement changes. -/
def windowPairs (w : List Entry) : List (Nat × Nat) := w.map fun e => (e.ticket, e.asker)

/-- R92: the window has changed: the line change signal. -/
def lineMoved (v w : List Entry) : Bool := decide (windowPairs v ≠ windowPairs w)

/-- R92: the window takes a new value, and a change is posted. -/
def setWindow (w : List Entry) (s : State) : State :=
  let s' := { s with window := w }
  if lineMoved s.window w then post .rl .lineChanged s' else s'

/-- R77: the Mark is raised to a greater key. -/
def raiseMark (k : Nat) (s : State) : State := { s with mark := max s.mark k }

/-- The reason with which an adopted order ends the Own Ask: its own, or CLASH when the same arrival shows an address clash
that reaches the Own Ask first (log entry 6). -/
def arrivalEnd (clash : Bool) (r : AskEnd) (s : State) : AskEnd :=
  if clash then (if Config.clashFirst s.freeCount then .clash else r) else r

/-- R88: the window after a DROP_ASK: emptied by target 0, and without the entry of any other target but this station. -/
def dropWindow (own target : Nat) (w : List Entry) : List Entry :=
  if target = 0 then [] else if target = own then w else removeAsker target w

/-- R84 to R88: RL's part of an arrival, on the screened frame. `own` is the own flag; an arrival from this station's own
address without it raises the Mark and changes nothing else (R84). -/
def lineArrival (own : Bool) (f : Frame) (s : State) : State :=
  let a := f.head.sender.toNat
  let k := f.head.key.toNat
  let self := decide (a = s.addr) && !own
  match f.body with
  | .ask _ =>
    let s1 := raiseMark k s
    if a = s.addr then s1
    else setWindow (askWindow { asker := a, ticket := k, standing := f.head.standing, silence := 0 } s1.window) s1
  | .withdraw _ =>
    let s1 := raiseMark k s
    if self then s1 else setWindow (withdrawWindow a k s1.window) s1
  | .take .. =>
    let s1 := raiseMark k s
    if self then s1
    else
      let s2 := setWindow (removeAsker a s1.window) s1
      match own, s2.ownAsk with
      | true, .live _ => endOwnAsk .taken s2
      | _, _ => s2
  | .direct target action _ =>
    if action = 3 ∧ ¬ self then
      let t := target.toNat
      let s1 := setWindow (dropWindow s.addr t s.window) s
      if t = 0 ∨ t = s.addr then endOwnAsk .dropped s1 else s1
    else s
  | _ => s

/-- R89: RL's part of an adoption that clears the line, or whose mode transition empties it. -/
def lineEmptied (clash clear : Bool) (s : State) : State :=
  let s1 := setWindow [] s
  let s2 := if clear then { s1 with mark := 0 } else s1
  endOwnAsk (arrivalEnd clash (if clear then .cleared else .mode) s) s2

/-- R90: the window at a view tick. -/
def tickWindow (w : List Entry) : List Entry :=
  (w.map fun e => { e with silence := e.silence + 1 }).filter fun e => e.silence < 3

/-- R145: the wait meter at a view tick. -/
def tickWait (s : State) : State :=
  match s.ownAsk with
  | .live _ => { s with st := { s.st with waitMeter := min 65535 (s.st.waitMeter + 1) } }
  | _ => s

/-- R46, R90, R145: the Request Line's part of a view tick, with the wait meter. -/
def viewTickLine (s : State) : State := placeRefresh (tickWait (setWindow (tickWindow s.window) s))

/-- R82: the Own Ask becomes LIVE with its ticket, and the wait meter starts (R145). -/
def askLive (t : Nat) (s : State) : State :=
  post .rl (.askLive t) { s with ownAsk := .live t, st := { s.st with waitMeter := 0 } }

end Sys2Proof.Machine
end

