-- ==== Sys2Proof/Machine/FloorOrder.lean ====
section
/-! DEFINITION. The Floor Order (chapter 6): adoption of an order and what it changes. -/

namespace Sys2Proof.Machine

open Sys2Proof

/-- R98: the distance from the record's sequence to the arriving one, modulo 256. -/
def orderDistance (s' s : BitVec 8) : Nat := (s' - s).toNat

/-- R98: whether an arriving order is adopted. -/
def adopts (r : OrderRec) (sequence : BitVec 8) (source : Nat) : Bool :=
  let d := orderDistance sequence r.sequence
  decide (r.origin = .profile) || decide (1 ≤ d ∧ d ≤ 127) || (decide (d = 0) && decide (source < r.source))

/-- R100: a transition into this mode empties the line. -/
def Mode.emptiesLine : Mode → Bool
  | .override => true
  | .voice => true
  | _ => false

/-- R99 to R101: the adoption of an order: the record, ORDER_CHANGED, and the signals of R89 to the Request Line. -/
def adopt (clash : Bool) (r : OrderRec) (clear : Bool) (s : State) : State :=
  let s1 := post .fo (.orderChanged r.source) { s with order := r }
  if clear || (decide (r.mode ≠ s.order.mode) && r.mode.emptiesLine) then lineEmptied clash clear s1 else s1

/-- R97, R98: FO's part of an arrival, on the screened frame. -/
def orderArrivalFO (clash : Bool) (f : Frame) (s : State) : State :=
  match f.body with
  | .order source sequence mode l a g c clear =>
    if adopts s.order sequence source.toNat then
      adopt clash { mode := modeOfCode mode.toNat, laneLimit := l.toNat, allowance := a.toNat, grace := g.toNat,
                    capacity := c.toNat, sequence := sequence, source := source.toNat, origin := .line } clear s
    else s
  | _ => s

/-- R102 to R104: the body of the ORDER a slot sends, built from the record and the content at a restatement. -/
def orderBody (c : OrderSlot) (s : State) : Body :=
  let r := s.order
  match c with
  | .repeated =>
    .order (BitVec.ofNat 10 r.source) r.sequence (BitVec.ofNat 2 (modeCode r.mode)) (BitVec.ofNat 4 r.laneLimit)
      (BitVec.ofNat 8 r.allowance) (BitVec.ofNat 6 r.grace) (BitVec.ofNat 6 r.capacity) false
  | .new .fromRecord =>
    .order (BitVec.ofNat 10 s.addr) (r.sequence + 1) (BitVec.ofNat 2 (modeCode r.mode)) (BitVec.ofNat 4 r.laneLimit)
      (BitVec.ofNat 8 r.allowance) (BitVec.ofNat 6 r.grace) (BitVec.ofNat 6 r.capacity) false
  | .new (.fixed o) =>
    .order (BitVec.ofNat 10 s.addr) (r.sequence + 1) (BitVec.ofNat 2 (modeCode o.mode)) (BitVec.ofNat 4 o.laneLimit)
      (BitVec.ofNat 8 o.allowance) (BitVec.ofNat 6 o.grace) (BitVec.ofNat 6 o.capacity) o.clear

end Sys2Proof.Machine
end

