-- ==== Sys2Proof/Machine/SpeechTiming.lean ====
section
/-! DEFINITION. The Speech Timer (chapter 8): the speech tick, expiries and EXTEND corrections. -/

namespace Sys2Proof.Machine

open Sys2Proof

/-- R135, R138: the phase counted: the phase itself, or the held phase in PAUSED; none when the timer does not run. -/
def Phase.counted? : Phase → Option Counted
  | .idle => none
  | .counting c => some c
  | .paused c => some c

/-- R138, R140: the phase counted becomes another; PAUSED stays PAUSED. -/
def Phase.withCounted (p : Phase) (c : Counted) : Phase :=
  match p with
  | .idle => .idle
  | .counting _ => .counting c
  | .paused _ => .paused c

/-- R139: a sum of corrections, clamped. -/
def clampCorrection (x : Int) : Int := max (-4095) (min 4095 x)

/-- R137: remaining after a correction: 4095 when above, 0 when the sum is 0 or below. -/
def correctRemaining (remaining : Nat) (c : Int) : Nat := (min 4095 (max 0 ((remaining : Int) + c))).toNat

/-- R128: the warning at the Seat Agent: LIVE becomes WARNED, WARNED is posted, and the immediate HOLD placed. -/
def seatWarning (s : State) : State :=
  match s.seat with
  | .live h => placeHold (post .sa (.warned h.lane) { s with seat := .warned h })
  | _ => s

/-- R128: the lift at the Seat Agent: WARNED becomes LIVE, LIVE is posted, and the immediate HOLD placed. -/
def seatLift (s : State) : State :=
  match s.seat with
  | .warned h => placeHold (post .sa (.live h.lane) { s with seat := .live h })
  | _ => s

/-- R138: an expiry, with remaining at 0: a warning into the grace, or the second expiry. -/
def expire (s : State) : State :=
  match s.st.phase.counted? with
  | none => s
  | some .running =>
    if 0 < s.st.speechGrace then
      seatWarning { s with st := { s.st with phase := s.st.phase.withCounted .grace, remaining := s.st.speechGrace } }
    else yieldLane .time s
  | some .grace => yieldLane .time s

/-- R137 steps 3 and 4: what a speech tick leaves in remaining, when it changes it: a pending correction is applied, or a
phase that is counting falls by 1. -/
def tickRemaining (st : SpeechTimer) : Option Nat :=
  match st.phase with
  | .idle => none
  | .counting _ => some (if st.correction ≠ 0 then correctRemaining st.remaining st.correction else st.remaining - 1)
  | .paused _ => if st.correction ≠ 0 then some (correctRemaining st.remaining st.correction) else none

/-- R137 steps 3 to 5 and R140: the count, with the expiry or the lift that follows. -/
def countSpeech (s : State) : State :=
  match tickRemaining s.st with
  | none => s
  | some r =>
    let s1 := { s with st := { s.st with remaining := r, correction := 0 } }
    if r = 0 then expire s1
    else if 0 < s.st.correction ∧ s.st.phase.counted? = some .grace then
      seatLift { s1 with st := { s1.st with phase := s1.st.phase.withCounted .running } }
    else s1

/-- R137: a speech tick; it finds speaking clear and does nothing when no speech runs (R142). -/
def speechTick (s : State) : State :=
  if s.st.speaking then
    countSpeech { s with st := { s.st with elapsed := min 65535 (s.st.elapsed + 1) } }
  else s

/-- R138 as a step of its own: remaining reaches 0 at the count now due. Nothing happens while the count now due leaves
remaining above 0 (log entry 8). -/
def speechExpiry (s : State) : State :=
  if s.st.speaking ∧ tickRemaining s.st = some 0 then countSpeech s else s

/-- R139: ST's part of an arrival, on the screened frame. -/
def timerArrival (f : Frame) (s : State) : State :=
  match f.body with
  | .direct target action argument =>
    if action = 2 ∧ (target = 0 ∨ target.toNat = s.addr) ∧ s.st.phase ≠ .idle then
      { s with st := { s.st with correction := clampCorrection (s.st.correction + argument.toInt) } }
    else s
  | _ => s

end Sys2Proof.Machine
end

