-- ==== Sys2Proof/Machine/SeatAgent.lean ====
section
/-! DEFINITION. The Seat Agent (chapter 7): the floor decision, its outcomes, evaluation, restatement of a take, losing the
lane, grants, the end of the Own Ask at an arrival and the address clash. -/

namespace Sys2Proof.Machine

open Sys2Proof

/-! ## The floor decision -/

/-- R109: the outcomes of a decision. A displacement is a take with the displace flag set. -/
inductive Decision where
  | take (lane : Fin 8) (displace : Bool)
  | ask
  | noLane
  | nothing
  deriving DecidableEq, Repr

/-- R110, R111: F[0] when a lane is FREE, else the oldest lane of the standings given, else NO_LANE. -/
def takeOrDisplace (standings : List Role) (s : State) : Decision :=
  match s.freeLanes with
  | l :: _ => .take l false
  | [] =>
    match s.oldestLane standings with
    | some l => .take l true
    | none => .noLane

/-- R111: the chair decision. -/
def chairDecision (s : State) : Decision := takeOrDisplace [.priority, .delegate] s

/-- R111: the PRIORITY decision of OPEN and OVERRIDE, and of a voice attack (R114). -/
def priorityDecision (s : State) : Decision := takeOrDisplace [.delegate] s

/-- R110, R114: F[0] when there is delegate room and a FREE lane, else the outcome given. -/
def takeInRoom (otherwise : Decision) (s : State) : Decision :=
  match s.freeLanes with
  | l :: _ => if 1 ≤ s.room then .take l false else otherwise
  | [] => otherwise

/-- R110: the DELEGATE decision. -/
def delegateDecision (s : State) : Decision :=
  match s.order.mode with
  | .openFloor => if s.window.isEmpty then takeInRoom .ask s else .ask
  | .override =>
    takeInRoom (match s.oldestLane [.delegate] with | some l => .take l true | none => .noLane) s
  | .moderated => .ask
  | .voice => .nothing

/-- R110, R111: the decision of a TALK press, by the standing and the mode. -/
def talkDecision (s : State) : Decision :=
  match s.role with
  | .chair => chairDecision s
  | .delegate => delegateDecision s
  | .priority =>
    match s.order.mode with
    | .openFloor | .override => priorityDecision s
    | .moderated => .ask
    | .voice => .nothing
  | .listener => .nothing

/-- R114: the decision of a voice attack. -/
def attackDecision (s : State) : Decision :=
  match s.role with
  | .delegate => takeInRoom .noLane s
  | .priority => priorityDecision s
  | _ => .nothing

/-- R112: a new take of a kind with key 0, on the mode as it stands. -/
def State.newTake (s : State) (k : TakeKind) (lane : Fin 8) (displace : Bool) : IntendedTake :=
  { kind := k, lane := lane, key := 0, displace := displace, muting := s.takeMuting k, mode := s.order.mode, grantor := 0 }

/-- R80, R112: the Seat Agent asks the Request Line to allow a new ask. -/
def askNew (s : State) : State :=
  if 65535 ≤ s.mark then refuse .saturated (enterIdle s)
  else if s.order.capacity ≤ s.window.length then refuse .full (enterIdle s)
  else
    let s1 := placeFloor .ask { s with ownAsk := .pending }
    { s1 with seat := .asking }

/-- R112: the outcome of a press decision is carried out. -/
def carryOut (k : TakeKind) (d : Decision) (s : State) : State :=
  match d with
  | .take lane displace => beginTake (s.newTake k lane displace) s
  | .ask => askNew s
  | .noLane => refuse .noLane s
  | .nothing => s

/-- R114: a voice attack reported to the Seat Agent: it acts in IDLE alone, and not while a restart waits (R132). -/
def voiceAttack (s : State) : State :=
  if s.seat = .idle ∧ ¬ s.flags.restartPending then
    match attackDecision s with
    | .take lane displace => beginTake (s.newTake .voice lane displace) s
    | .noLane => if s.role = .priority then refuse .noLane s else signalRefusal s
    | _ => s
  else s

/-- R128, R152: a voice release reported to the Seat Agent. -/
def voiceRelease (s : State) : State :=
  match s.seat.speaking? with
  | some h => if h.tookBy = .voice then yieldLane .voice s else s
  | none => s

/-! ## Evaluation -/

/-- R113: the lane of a self-take: F[r] when r < min(f, n), in OPEN, with a LIVE Own Ask. -/
def State.selfTake? (s : State) : Option (Fin 8 × Nat) :=
  match s.ownAsk with
  | .live t =>
    if s.order.mode = .openFloor ∧ s.rankOf t < s.room then
      match s.freeLanes[s.rankOf t]? with
      | some l => some (l, t)
      | none => none
    else none
  | _ => none

/-- R113: a WAITING seat in OPEN evaluates; none is made while a restart waits (R132). -/
def evaluate (s : State) : State :=
  if s.seat = .waiting ∧ ¬ s.flags.restartPending then
    match s.selfTake? with
    | some (lane, t) =>
      beginTake { kind := .line, lane := lane, key := t, displace := false, muting := false, mode := s.order.mode,
                  grantor := 0 } s
    | none => s
  else s

/-- R62, R92, R99, R113: the signals of an event, on the state before it and after it: a view change, a line change or an
order change makes a WAITING seat evaluate. -/
def signals (before s : State) : State :=
  if viewMoved before.lanes s.lanes || lineMoved before.window s.window || decide (before.order ≠ s.order) then
    evaluate s
  else s

/-! ## Restating a take -/

/-- R116: the take goes ahead with a lane and a displace flag, on the mode as it stands. -/
def retake (t : IntendedTake) (lane : Fin 8) (displace : Bool) (s : State) : State :=
  { s with seat := .taking { t with lane := lane, displace := displace, mode := s.order.mode,
                                    muting := s.takeMuting t.kind } }

/-- R116: the decision that made a take is rerun, by its kind. -/
def rerunTake (t : IntendedTake) (s : State) : State :=
  match t.kind with
  | .key =>
    match talkDecision s with
    | .take lane displace => retake t lane displace s
    | .ask => askNew (removeFloor s)
    | .noLane => refuse .noLane (leaveTake t s)
    | .nothing => signalRefusal (leaveTake t s)
  | .line =>
    match s.selfTake? with
    | some (lane, _) => retake t lane false s
    | none => leaveTake t s
  | .grant =>
    match s.ownAsk, s.freeLanes with
    | .live _, lane :: _ => retake t lane false s
    | _, _ => post .sa (.grantNoLane t.grantor) (leaveTake t s)
  | .voice =>
    if s.order.mode = .voice ∧ ¬ s.flags.cough then
      match attackDecision s with
      | .take lane displace => retake t lane displace s
      | _ => leaveTake t s
    else leaveTake t s
  | .priority =>
    match chairDecision s with
    | .take lane displace => retake t lane displace s
    | _ => refuse .noLane (leaveTake t s)

/-- R116, R117: a pending TAKE is restated: a displacement whose lane has become FREE under the mode of its decision is a
plain take of that lane, and any other take reruns its decision. -/
def restateTake (t : IntendedTake) (s : State) : State :=
  if t.displace ∧ s.lanes[t.lane].isFree ∧ s.order.mode = t.mode then
    { s with seat := .taking { t with displace := false, muting := s.takeMuting t.kind } }
  else rerunTake t s

/-! ## Arrivals at the seat -/

/-- R125: a TAKE of the own lane by another address. -/
def seatTake (taker : Nat) (lane : Fin 8) (displace : Bool) (s : State) : State :=
  match s.seat with
  | .live h | .warned h =>
    if h.lane = lane then
      post .sa (if displace then .displaced taker else .laneLost taker) (enterIdle (speechEnd s))
    else s
  | .yielding h _ => if h.lane = lane then enterIdle (removeFloor s) else s
  | _ => s

/-- R126: a HOLD for the own lane from another address: the higher address ends its speech, yields with CONFLICT and posts
LANE_LOST. A chair whose muting flag is set may enter IDLE instead and send no YIELD, as R172 says: a free value (log entry
26). -/
def seatHold (sender : Nat) (lane : Fin 8) (s : State) : State :=
  match s.seat.speaking? with
  | some h =>
    if h.lane = lane ∧ sender < s.addr then
      post .sa (.laneLost sender)
        (if (s.isChair ∧ h.muting) ∧ ¬ Config.mutingChairYields then enterIdle (speechEnd s) else yieldLane .conflict s)
    else s
  | none => s

/-- R127: a CUT that names this seat. -/
def seatCut (s : State) : State :=
  match s.seat with
  | .live h | .warned h => post .sa (.cut h.lane) (enterIdle (speechEnd s))
  | .yielding _ _ => enterIdle (removeFloor s)
  | _ => s

/-- R115: a GRANT that names this seat. -/
def seatGrant (chair : Nat) (s : State) : State :=
  match s.seat, s.ownAsk with
  | .waiting, .live t =>
    if s.flags.restartPending then s
    else match s.freeLanes with
      | lane :: _ =>
        beginTake { kind := .grant, lane := lane, key := t, displace := false, muting := false, mode := s.order.mode,
                    grantor := chair } s
      | [] => post .sa (.grantNoLane chair) s
  | _, _ => s

/-- R129: the Own Ask has ended by DROPPED, CLEARED or MODE. -/
def seatAskEnded (s : State) : State :=
  match s.seat with
  | .asking => enterIdle (removeFloor s)
  | .waiting => enterIdle s
  | .taking t => if t.kind = .line ∨ t.kind = .grant then enterIdle (removeFloor s) else s
  | _ => s

/-- R129: a WITHDRAW still pending at an IDLE seat is removed. -/
def dropWithdraw (s : State) : State :=
  match s.seat, s.sq.floor with
  | .idle, some { content := .withdraw _ _, .. } => { s with sq := { s.sq with floor := none } }
  | _, _ => s

/-- R121, R129: the Seat Agent's part of an arrival that may have changed the order, on the state before the arrival. -/
def seatOrder (clear : Bool) (before s : State) : State :=
  if s.order = before.order then s
  else
    let moved := decide (s.order.mode ≠ before.order.mode)
    let s1 := if before.ownAsk ≠ .none ∧ s.ownAsk = .none then seatAskEnded s else s
    let s2 := if clear || (moved && s.order.mode.emptiesLine) then dropWithdraw s1 else s1
    if moved ∧ before.order.mode = .voice then { s2 with flags := { s2.flags with cough := false } } else s2

/-- R115, R121, R125 to R127, R129: the Seat Agent's part of an arrival, on the screened frame; `before` is the state
before the arrival. A settling seat ignores GRANT, CUT, TAKE and HOLD and a listening one everything, which the rules give by
their seat states (R107, R108). -/
def seatArrival (f : Frame) (before s : State) : State :=
  let a := f.head.sender.toNat
  match f.body with
  | .take lane displace _ => if a = s.addr then s else seatTake a (laneOf lane) displace s
  | .hold .. => if a = s.addr then s else seatHold a (Fin.ofNat 8 f.head.key.toNat) s
  | .direct target action _ =>
    let named := target = 0 ∨ target.toNat = s.addr
    if action = 0 ∧ named ∧ s.isDelegateSeat then seatCut s
    else if action = 1 ∧ target.toNat = s.addr ∧ s.isDelegateSeat then seatGrant a s
    else if action = 3 ∧ named then
      dropWithdraw (if before.ownAsk ≠ .none ∧ s.ownAsk = .none then seatAskEnded s else s)
    else s
  | .order (clear := clear) .. => seatOrder clear before s
  | _ => s

/-! ## Address clash -/

/-- R130: the sender field equals the own address and the own flag is clear, in every seat state but LISTEN. -/
def State.clashes (s : State) (own : Bool) (f : Frame) : Bool :=
  !own && decide (f.head.sender.toNat = s.addr) && decide (s.seat ≠ .listen)

/-- R50: every slot and the next-order place emptied, with every count and the repeat count. -/
def emptyQueue (s : State) : State := { s with sq := { SendQ.reset with inFlight := s.sq.inFlight } }

/-- R130: an address clash. Every latch and flag of the seat is dropped, priority held among them (R162); a running refusal
flash is ended (R178). -/
def addressClash (s : State) : State :=
  let s1 := if s.seat.speaking?.isSome then speechEnd s else s
  let s2 := endOwnAsk .clash (emptyQueue (enterListen s1))
  post .sa (.addressClash s.addr) { s2 with flags := { SeatFlags.reset with clash := true }, flash := .stopped }

end Sys2Proof.Machine
end

