-- ==== Sys2Proof/Machine/VoiceDetection.lean ====
section
/-! DEFINITION. The Voice Unit (chapter 9): sampling, the detector and the one-push trim. -/

namespace Sys2Proof.Machine

open Sys2Proof

/-- R148: the envelope after a sample x. -/
def stepEnvelope (e x : Nat) : Nat :=
  let t := x * 256
  if e < t then e + max 1 ((t - e) / 4)
  else if t < e then e - max 1 ((e - t) / 64)
  else e

/-- R152: the conditions under which an attack is reported. -/
def State.attackReported (s : State) : Bool :=
  s.isDelegateSeat && decide (s.order.mode = .voice) && !s.flags.cough && s.vu.trim.isNone

/-- R150, R152: an attack completion: QUIET becomes VOICED, and the attack may be reported. -/
def attackDone (s : State) : State :=
  if s.vu.voiced then s
  else
    let s1 := { s with vu := { s.vu with voiced := true } }
    if s.attackReported then voiceAttack s1 else s1

/-- R150, R152: a release completion: VOICED becomes QUIET, and a release is reported in either state. -/
def releaseDone (s : State) : State := voiceRelease { s with vu := { s.vu with voiced := false } }

/-- R149: the attack counter rises by 1; reaching 40 is a completion. -/
def countAttack (s : State) : State :=
  let s1 := { s with vu := { s.vu with attack := min 40 (s.vu.attack + 1), release := 0 } }
  if s.vu.attack + 1 = 40 then attackDone s1 else s1

/-- R149: the release counter rises by 1; reaching H is a completion. -/
def countRelease (s : State) : State :=
  let s1 := { s with vu := { s.vu with attack := 0, release := min s.prof.releaseHold (s.vu.release + 1) } }
  if s.vu.release + 1 = s.prof.releaseHold then releaseDone s1 else s1

/-- R149, R151: the counters at a sample, by the level. While the cough flag is set both stay at 0. -/
def moveCounters (s : State) : State :=
  if s.flags.cough then { s with vu := { s.vu with attack := 0, release := 0 } }
  else if s.vu.threshold ≤ s.level then countAttack s
  else if s.lowerThreshold ≤ s.level then { s with vu := { s.vu with attack := 0, release := 0 } }
  else countRelease s

/-- R155: a running trim takes the level; the sample that brings the count to 2048 completes it. -/
def moveTrim (s : State) : State :=
  match s.vu.trim with
  | none => s
  | some t =>
    let sum := t.sum + s.level
    if 2048 ≤ t.count + 1 then
      let th := min 255 (sum / 2048 + s.prof.trimMargin)
      post .vu (.trimDone th) { s with vu := { s.vu with threshold := th, trim := none } }
    else { s with vu := { s.vu with trim := some { count := t.count + 1, sum := sum } } }

/-- R147: a sample updates the envelope, then the counters, then a running trim. -/
def levelSample (x : BitVec 8) (s : State) : State :=
  moveTrim (moveCounters { s with vu := { s.vu with envelope := stepEnvelope s.vu.envelope x.toNat } })

/-- R150 as a step of its own: the attack counter, one short of 40, reaches it (log entry 8). -/
def attackCompletion (s : State) : State :=
  if ¬ s.flags.cough ∧ s.vu.attack + 1 = 40 then countAttack s else s

/-- R150 as a step of its own: the release counter, one short of H, reaches it (log entry 8). -/
def releaseCompletion (s : State) : State :=
  if ¬ s.flags.cough ∧ s.vu.release + 1 = s.prof.releaseHold then countRelease s else s

/-- R155 as a step of its own: the trim count, one short of 2048, reaches it (log entry 8). -/
def trimCompletion (s : State) : State :=
  match s.vu.trim with
  | some t => if t.count + 1 = 2048 then moveTrim s else s
  | none => s

/-- R151: both counters go to 0 at the instant the cough flag is set. -/
def setCough (s : State) : State :=
  { s with flags := { s.flags with cough := true }, vu := { s.vu with attack := 0, release := 0 } }

/-- R154: the seat states in which a TRIM is answered BUSY. -/
def Seat.refusesTrim : Seat → Bool
  | .taking _ => true
  | .live _ => true
  | .warned _ => true
  | .yielding _ _ => true
  | _ => false

/-- R154: whether a TRIM is answered BUSY. -/
def State.trimBusy (s : State) : Bool := s.seat.refusesTrim || s.vu.trim.isSome

/-- R154: a trim starts. -/
def startTrim (s : State) : State := { s with vu := { s.vu with trim := some { count := 0, sum := 0 } } }

end Sys2Proof.Machine
end

