-- ==== Sys2Proof/Machine/Keys.lean ====
section
/-! DEFINITION. The keys: TALK, CANCEL and the cough key (R118 to R121), the chair's TALK, PRIORITY and NEXT (R162 to
R168), and the debouncers of Seat Controls (R175). -/

namespace Sys2Proof.Machine

open Sys2Proof

/-- The cancel latch is set with a cause (R118, R119, R121, R166). A latch already set keeps its cause: R119 says so of a press that
finds it set. That it holds of a press in ASKING too is DEDUCED (log entry 31), and that a second PRIORITY release with another
cause (R166) keeps the first is a DESIGN CHOICE (log entry 30). -/
def setLatch (c : Cause) (s : State) : State :=
  { s with flags := { s.flags with cancelLatch := some (s.flags.cancelLatch.getD c) } }

/-- R118: TALK, or CANCEL, in ASKING: the ASK leaves, or the latch is set while it is in flight. -/
def cancelAsk (c : Cause) (s : State) : State :=
  if s.askFlying then setLatch c s else enterIdle (endOwnAsk .withdrawn (removeFloor s))

/-- R118: TALK, or CANCEL, in WAITING: the Own Ask ends and a WITHDRAW with its ticket is placed. -/
def cancelWait (c : Cause) (s : State) : State :=
  match s.ownAsk with
  | .live t => enterIdle (placeFloor (.withdraw t c) (endOwnAsk .withdrawn s))
  | _ => s

/-- R119, R164: TALK in TAKING. With priority held set a take of kind PRIORITY becomes one of kind KEY, in flight or not; R164
excepts this from R119, so also where the cancel latch is set, which then stays set (DEDUCED, log entry 27). In every other case
a press that finds the latch set is ignored. -/
def talkTaking (t : IntendedTake) (c : Cause) (s : State) : State :=
  if s.isChair ∧ s.flags.priorityHeld ∧ t.kind = .priority then { s with seat := .taking { t with kind := .key } }
  else if s.flags.cancelLatch.isSome then s
  else if s.takeFlying then setLatch c s
  else leaveTake t s

/-- R118, R119, R164: a TALK press, by the seat state. -/
def talkPress (c : Cause) (s : State) : State :=
  match s.seat with
  | .idle => carryOut .key (talkDecision s) s
  | .asking => cancelAsk c s
  | .waiting => cancelWait c s
  | .taking t => talkTaking t c s
  | .live h =>
    if s.isChair ∧ s.flags.priorityHeld ∧ h.tookBy = .priority then { s with seat := .live { h with tookBy := .key } }
    else yieldLane .key s
  | .warned _ => yieldLane .key s
  | _ => s

/-- R121: a CANCEL press. -/
def cancelPress (c : Cause) (s : State) : State :=
  match s.seat with
  | .asking => cancelAsk c s
  | .waiting => cancelWait c s
  | _ => s

/-- R165: a chair's PRIORITY press. -/
def priorityPress (s : State) : State :=
  if s.flags.priorityHeld then s
  else
    let s1 := { s with flags := { s.flags with priorityHeld := true } }
    match s.seat with
    | .idle => carryOut .priority (chairDecision s1) s1
    | .taking t =>
      if t.kind = .key ∧ ¬ s.takeFlying then { s1 with seat := .taking { t with muting := true } } else s1
    | .live h => placeHold { s1 with seat := .live { h with muting := true } }
    | _ => s1

/-- R166: a chair's PRIORITY release. -/
def priorityRelease (c : Cause) (s : State) : State :=
  if ¬ s.flags.priorityHeld then s
  else
    let s1 := { s with flags := { s.flags with priorityHeld := false } }
    match s.seat with
    | .taking t =>
      if t.kind = .priority then (if s.takeFlying then setLatch c s1 else leaveTake t s1)
      else if t.kind = .key ∧ ¬ s.takeFlying then { s1 with seat := .taking { t with muting := false } }
      else s1
    | .live h =>
      if h.tookBy = .priority then yieldLane .priorityEnd s1
      else placeHold { s1 with seat := .live { h with muting := false } }
    | _ => s1

/-- R167, R168: a DIRECT of an action to a target, pushed unless the FIFO is full, which refuses the press. -/
def pushNext (target : Nat) (action : BitVec 3) (s : State) : State :=
  if s.fifoFull then signalRefusal s
  else pushDirect { target := BitVec.ofNat 10 target, action := action, argument := 0 } s

/-- R167, R168: a chair's NEXT press: a GRANT to the head of the line in MODERATED, and otherwise a CUT of the oldest
DELEGATE lane's holder. It acts in IDLE, TAKING, LIVE and YIELDING. -/
def nextPress (s : State) : State :=
  if s.order.mode = .moderated then
    match s.window with
    | e :: _ => pushNext e.asker 1 s
    | [] => signalRefusal s
  else
    match s.oldestLane [.delegate] with
    | some i =>
      match s.lanes[i] with
      | .held r => pushNext r.holder 0 s
      | .free => signalRefusal s
    | none => signalRefusal s

/-- R121: whether K1 is the cough key. -/
def State.coughKey (s : State) : Bool := s.isDelegateSeat && decide (s.order.mode = .voice)

/-- R107, R118 to R121, R132, R165, R167: a press that reaches the Seat Agent, at a role for which the key has a
function. -/
def seatPress (k : KeyId) (c : Cause) (s : State) : State :=
  if s.flags.restartPending then s
  else match s.seat with
    | .listen => s
    | .settling _ => if k = .k1 then { s with flags := { s.flags with pendingPress := true } } else s
    | _ =>
      match k with
      | .k1 => if s.coughKey then setCough s else talkPress c s
      | .k2 => if s.isChair then priorityPress s else cancelPress c s
      | .k3 => if s.isChair then nextPress s else s

/-- R121, R166: a release that reaches the Seat Agent. Releases of TALK, CANCEL and NEXT are ignored. -/
def seatRelease (k : KeyId) (c : Cause) (s : State) : State :=
  if s.flags.restartPending then s
  else match s.seat with
    | .listen => s
    | .settling _ => s
    | _ =>
      match k with
      | .k1 => if s.coughKey then { s with flags := { s.flags with cough := false } } else s
      | .k2 => if s.isChair then priorityRelease c s else s
      | .k3 => s

/-- R156, R175: a press or release given to the Seat Agent: a LISTENER's keys have no function, and a K1 press that reaches
the Seat Agent aborts a running trim. -/
def keyReport (k : KeyId) (pressed : Bool) (c : Cause) (s : State) : State :=
  if s.role = .listener then s
  else if pressed then seatPress k c (if k = .k1 then abortTrim .key s else s)
  else seatRelease k c s

/-! ## Debouncing (R175) -/

/-- One of the three keys. -/
def State.keyOf (s : State) (k : KeyId) : KeyState :=
  match k with
  | .k1 => s.key1
  | .k2 => s.key2
  | .k3 => s.key3

/-- One of the three keys takes a new state. -/
def setKey (k : KeyId) (x : KeyState) (s : State) : State :=
  match k with
  | .k1 => { s with key1 := x }
  | .k2 => { s with key2 := x }
  | .k3 => { s with key3 := x }

/-- R175: a key at a new level of its pin: the stability timer starts or reloads when the level disagrees with the
debounced state, and stops when it agrees. -/
def keyAtLevel (debounce : Nat) (pin : Bool) (x : KeyState) : KeyState :=
  { x with pin := pin, timer := if pin = x.pressed then .stopped else .running debounce }

/-- R175: the level of a key's pin changes. A level the pin already has is no change. -/
def keyLevelChange (k : KeyId) (pin : Bool) (s : State) : State :=
  if (s.keyOf k).pin = pin then s else setKey k (keyAtLevel s.prof.debounce pin (s.keyOf k)) s

/-- R175: a running stability timer expires: the debounced state takes the pin's level and the change is reported. -/
def debounceExpiry (k : KeyId) (s : State) : State :=
  let x := s.keyOf k
  if x.timer = .stopped then s
  else keyReport k x.pin .key (setKey k { x with pressed := x.pin, timer := .stopped } s)

end Sys2Proof.Machine
end

