-- ==== Sys2Proof/Machine/Restart.lean ====
section
/-! DEFINITION. RESTART (R131 to R133) and the reset values it brings (R50, R73, R94, R105, R146, R160, R161, R189), the
release of RST_N (R174), and the end of SETTLING (R107). -/

namespace Sys2Proof.Machine

open Sys2Proof

/-- Eight FREE lanes. -/
def freeView : Vector Lane 8 := #v[.free, .free, .free, .free, .free, .free, .free, .free]

/-- R133: the completion of the restart. LI, the straps, the debouncers, the trimmed threshold, the feed and the panel
transaction are kept; the event queue is emptied and RESTARTED posted. What other blocks post at this same instant is emptied
too, LINE_STUCK where entry to STUCK ends the last attempt waited for (R18) and TRIM_ABORTED(RESTART) where the restart completes
at its command (R156) among them: the rules do not order those postings and the emptying (DESIGN CHOICE, log entry 29). -/
def completeRestart (s : State) : State :=
  { s with
    sq := .reset
    lanes := freeView
    mutes := []
    viewTicks := 0
    window := []
    mark := 0
    ownAsk := .none
    order := profileOrder s.profile
    seat := .settling 0
    flags := { SeatFlags.reset with clash := s.flags.clash }
    st := .reset
    vu := { s.vu with envelope := 0, attack := 0, release := 0, voiced := false }
    gc := .reset
    flash := .stopped
    pp := { s.pp with events := [], reading := false }
    outbox := [{ block := .pp, event := .restarted }] }

/-- R132: both conditions of the restart's completion hold: no attempt is in flight, and no restart frame is pending. The
FLOOR slot is the only one that takes a frame in the wait (R50). -/
def State.restartDone (s : State) : Bool :=
  s.flags.restartPending && s.sq.inFlight.isNone && s.sq.floor.isNone && s.sq.floorHeld.isNone

/-- R132: the restart completes at the first instant at which both conditions hold. -/
def checkRestart (s : State) : State := if s.restartDone then completeRestart s else s

/-- R50: at the command, every frame that is not in flight and every held frame leaves the queue. -/
def dropUnflown (s : State) : State :=
  { s with sq := { s.sq with
      order := if s.flying .order then s.sq.order else none
      nextOrder := none
      direct := if s.flying .direct then s.sq.direct.take 1 else []
      floor := if s.flying .floor then s.sq.floor else none
      floorHeld := none
      askref := if s.flying .askref then s.sq.askref else none
      askrefHeld := false
      hold := if s.flying .hold then s.sq.hold else none
      holdHeld := false } }

/-- R131: a restart cancels an ASK or a TAKE in flight: the latch's cause becomes RESTART, whatever it was. -/
def latchRestart (s : State) : State := { s with flags := { s.flags with cancelLatch := some .restart } }

/-- R94, R131, R132: the Own Ask ends with reason RESTART, and a LIVE one leaves a WITHDRAW(RESTART) with its ticket; the
seat enters IDLE. -/
def leaveLine (s : State) : State :=
  match s.ownAsk with
  | .live t => enterIdle (placeFloor (.withdraw t .restart) (endOwnAsk .restart s))
  | _ => enterIdle (endOwnAsk .restart s)

/-- R131: what RESTART does at the seat, by its state. -/
def restartSeat (s : State) : State :=
  match s.seat with
  | .settling _ => completeRestart s
  | .asking => if s.askFlying then latchRestart s else leaveLine s
  | .waiting => leaveLine s
  | .taking _ => if s.takeFlying then latchRestart s else leaveLine s
  | .live _ | .warned _ => yieldLane .restart s
  | .yielding h _ =>
    if s.flying .floor then s
    else { placeFloor (.yield h.lane .restart) s with seat := .yielding h .restart }
  | _ => s

/-- R131, R156, R162: an accepted RESTART. -/
def restart (s : State) : State :=
  let s1 := dropUnflown (abortTrim .restart s)
  restartSeat { s1 with flags := { s1.flags with restartPending := true, priorityHeld := false } }

/-! ## The release of RST_N -/

/-- R189: a key at the release: a pin already low starts its timer at once. -/
def releasedKey (debounce : Nat) (x : KeyState) : KeyState :=
  { pin := x.pin, pressed := false, timer := if x.pin then .running debounce else .stopped }

/-- R174 and the reset values of every block: the station at the release of RST_N. The queue of commands, what comes at
the pins, and the levels of the key pins and of PSEL are the world's and stand as they are. -/
def releaseReset (addr : AddrBits) (role : Role) (profile : BitVec 2) (s : State) : State :=
  let p := profileOf profile
  { pending := s.pending
    resetLow := false
    pins := s.pins
    addr := addr.toNat
    role := role
    profile := profile
    li := .reset
    sq := .reset
    lanes := freeView
    mutes := []
    viewTicks := 0
    window := []
    mark := 0
    ownAsk := .none
    order := profileOrder profile
    seat := if role = .listener ∨ ¬ validAddress addr.toNat then .listen else .settling 0
    flags := .reset
    st := .reset
    vu := { envelope := 0, threshold := p.threshold, attack := 0, release := 0, voiced := false, trim := none }
    gc := .reset
    key1 := releasedKey p.debounce s.key1
    key2 := releasedKey p.debounce s.key2
    key3 := releasedKey p.debounce s.key3
    flash := .stopped
    pp := { PanelPort.reset with feedOn := decide (role = .listener), psel := s.pp.psel }
    outbox := []
    freeCount := s.freeCount }

/-- R20, R161, R178, R179: RST_N goes low. LANE_SEL and SPK_MUTE take their values here; FL_TX, GATE, ATTN, RING and REQ
follow from RST_N itself. -/
def assertReset (s : State) : State :=
  { s with resetLow := true, gc := { s.gc with laneSel := 0, spkMute := false } }

/-! ## The end of SETTLING -/

/-- R107: the end of SETTLING: IDLE, the chair's new order, and then the pending press. -/
def endSettling (s : State) : State :=
  let s1 := { s with seat := .idle }
  let s2 := if s.isChair ∧ s.order.origin = .profile then placeOrder .fromRecord s1 else s1
  let s3 := { s2 with flags := { s2.flags with pendingPress := false } }
  if s.flags.pendingPress ∧ ¬ s.coughKey then talkPress .key s3 else s3

/-- R107: the Seat Agent's count of view ticks in SETTLING; the fourth ends it. -/
def tickSettling (s : State) : State :=
  match s.seat with
  | .settling n => if n + 1 < 4 then { s with seat := .settling (n + 1) } else endSettling s
  | _ => s

/-- R48: the repeat count at a view tick: it rises at a chair outside SETTLING and LISTEN, and not in the wait of a restart
(R50); where it would reach 4 it is set to 0 and a repeat falls due. -/
def tickRepeat (s : State) : State :=
  if s.isChair ∧ ¬ s.seat.isSettling ∧ s.seat ≠ .listen ∧ ¬ s.flags.restartPending then
    if s.sq.repeatCount + 1 < 4 then { s with sq := { s.sq with repeatCount := s.sq.repeatCount + 1 } }
    else placeRepeat { s with sq := { s.sq with repeatCount := 0 } }
  else s

/-- Section 4.7: a view tick: the view ages, the line ages and refreshes, the repeat count rises, a LIVE or WARNED seat
places its HOLD, SETTLING is counted, and a WAITING seat evaluates (R113). -/
def viewTick (s : State) : State :=
  evaluate (tickSettling (placeHold (tickRepeat (viewTickLine (viewTickView s)))))

/-- R107 as a step of its own: the fourth view tick of SETTLING comes (log entry 8). -/
def settlingEnd (s : State) : State :=
  match s.seat with
  | .settling n => if n + 1 = 4 then endSettling s else s
  | _ => s

/-- R48 as a step of its own: the repeat count, one short of 4, would reach it (log entry 8). -/
def orderRepeat (s : State) : State := if s.sq.repeatCount + 1 = 4 then tickRepeat s else s

/-- R63 as a step of its own: a lane record's silence, one short of 3, reaches it (log entry 8). -/
def laneLapse (i : Fin 8) (s : State) : State :=
  match s.lanes[i] with
  | .held r =>
    if r.silence + 1 = 3 ∧ ¬ s.ownKept i then
      evaluate (setLanes (mapLanes (fun j l => if j = i then .free else l) s.lanes) s)
    else s
  | .free => s

/-- R68 as a step of its own: a mute source's silence, one short of 3, reaches it (log entry 8). -/
def muteSourceLapse (chair : Nat) (s : State) : State :=
  if s.mutes.any (fun m => m.chair = chair ∧ m.silence + 1 = 3) then setMutes (muteLeave chair s.mutes) s else s

/-- R90 as a step of its own: a window entry's silence, one short of 3, reaches it (log entry 8). -/
def lineEntryLapse (asker : Nat) (s : State) : State :=
  if s.window.any (fun e => e.asker = asker ∧ e.silence + 1 = 3) then evaluate (setWindow (removeAsker asker s.window) s)
  else s

end Sys2Proof.Machine
end

