-- ==== Sys2Proof/Machine/Attempts.lean ====
section
/-! DEFINITION. The Send Queue (chapter 3): restatement and selection at a start boundary, and the end of an attempt, with
the arrival of an accepted frame at every block (R17) and what the owner of a completed or dropped frame does. -/

namespace Sys2Proof.Machine

open Sys2Proof

/-! ## A start boundary -/

/-- A frame of this station with a key and a body: its own role as standing, its own address as sender (R23). -/
def State.ownFrame (s : State) (key : Nat) (b : Body) : Frame :=
  { head := { standing := s.role, key := BitVec.ofNat 16 key, sender := BitVec.ofNat 10 s.addr }, body := b }

/-- R38, R81, R116: the FLOOR frame is restated by the Seat Agent or the Request Line. -/
def restateFloor (s : State) : State :=
  match s.sq.floor with
  | some { content := .take, .. } =>
    match s.seat with
    | .taking t => restateTake t s
    | _ => removeFloor s
  | some { content := .ask, .. } =>
    if 65535 ≤ s.mark then refuse .saturated (enterIdle (refuseOwnAsk (removeFloor s))) else s
  | _ => s

/-- R38, R46: a refresh is withdrawn when the Own Ask is not LIVE. -/
def restateRefresh (s : State) : State :=
  match s.ownAsk with
  | .live _ => s
  | _ => { s with sq := { s.sq with askref := none } }

/-- R38, R45: a HOLD is withdrawn when the seat is not LIVE or WARNED. -/
def restateHold (s : State) : State :=
  if s.seat.speaking?.isSome then s else { s with sq := { s.sq with hold := none } }

/-- R38: every owner restates. A DIRECT and an ORDER are never withdrawn; an ORDER's content is read from the record when
its frame is built. -/
def restateAll (s : State) : State := restateHold (restateRefresh (restateFloor s))

/-- R22, R30, R31, R32, R38, R81: the frame the FLOOR slot now holds. -/
def State.floorFrame (s : State) (c : FloorFrame) : Option Frame :=
  match c with
  | .take =>
    match s.seat with
    | .taking t => some (s.ownFrame t.key (.take (BitVec.ofNat 3 t.lane.val) t.displace t.muting))
    | _ => none
  | .ask => some (s.ownFrame (s.mark + 1) (.ask false))
  | .yield lane r => some (s.ownFrame lane.val (.yield (BitVec.ofNat 3 lane.val) (BitVec.ofNat 3 (yieldCode r))))
  | .withdraw t r => some (s.ownFrame t (.withdraw (BitVec.ofNat 2 (causeCode r))))

/-- R34, R38: the HOLD of a LIVE or WARNED seat as it stands now. -/
def State.holdFrame (s : State) : Option Frame :=
  match s.seat with
  | .live h => some (s.ownFrame h.lane.val (.hold (BitVec.ofNat 16 s.st.elapsed) h.muting false))
  | .warned h => some (s.ownFrame h.lane.val (.hold (BitVec.ofNat 16 s.st.elapsed) h.muting true))
  | _ => none

/-- R38: the refresh of a LIVE Own Ask. -/
def State.refreshFrame (s : State) : Option Frame :=
  match s.ownAsk with
  | .live t => some (s.ownFrame t (.ask true))
  | _ => none

/-- R39: the restated frames, each with its slot; the DIRECT FIFO offers its head alone (R37). A SETTLING or LISTEN seat
builds none (R23, R49). -/
def State.offers (s : State) : List Flight :=
  if s.seat.isSettling || decide (s.seat = .listen) then []
  else
    let of (slot : SlotId) (f : Option Frame) : List Flight :=
      match f with
      | some f => [{ slot := slot, frame := f }]
      | none => []
    of .order (s.sq.order.map fun o => s.ownFrame 0 (orderBody o.content s))
      ++ of .direct (s.sq.direct.head?.map fun d =>
          s.ownFrame 0 (.direct d.content.target d.content.action d.content.argument))
      ++ of .floor (s.sq.floor.bind fun c => s.floorFrame c.content)
      ++ of .askref (s.sq.askref.bind fun _ => s.refreshFrame)
      ++ of .hold (s.sq.hold.bind fun _ => s.holdFrame)

/-- R39: the offer with the lowest arbitration field. -/
def lowestOffer : List Flight → Option Flight
  | [] => none
  | x :: rest =>
    match lowestOffer rest with
    | none => some x
    | some y => if x.frame.arbitration ≤ y.frame.arbitration then some x else some y

/-- R4, R5: LI loads a frame into its transmit shift state and enters LEAD; its attempt begins (R16). -/
def launch (fl : Flight) (s : State) : State :=
  { s with
    sq := { s.sq with inFlight := some fl }
    li := { s.li with status := .lead, leadBits := 0, runValue := true, runLength := 0, rx := [], crc := 0xFFFF,
                      tx := fl.frame.image, bitFault := false, objecting := false } }

/-- R3, R4, R38, R39: a start boundary: the idle count stands at ten, every owner restates, and the lowest frame goes to
LI. -/
def offerFrame (s : State) : State :=
  let s1 := restateAll { s with li := { s.li with idleCount := 10, dominantRun := 0 } }
  match lowestOffer s1.offers with
  | some fl => launch fl s1
  | none => s1

/-- R3, R4: a start boundary comes only in IDLE with no frame of this station in flight and no burst under way. -/
def startBoundary (s : State) : State :=
  if s.li.status = .idle ∧ s.sq.inFlight.isNone ∧ s.li.burstLeft = 0 then checkRestart (offerFrame s) else s

/-! ## LI at the end of a frame -/

/-- R3, R14, R16: at the end of a slot, and where a frame is given up, LI enters IDLE with the idle count at 0, its buffer
and its transmit shift state empty. -/
def lineIdle (s : State) : State :=
  { s with li := { s.li with status := .idle, idleCount := 0, rx := [], tx := [], bitFault := false, objecting := false } }

/-- R18: a recessive line value sets the dominant count to 0: the slot of an accepted frame. -/
def slotRecessive (s : State) : State := { s with li := { s.li with dominantRun := 0 } }

/-! ## Removing a frame from its slot -/

/-- R40, R41, R42, R47: the frame in flight leaves its slot, by completion, drop or the restart's removal: what was held
for the slot takes it with count 0. -/
def takeOut (slot : SlotId) (s : State) : State :=
  let q := { s.sq with inFlight := none }
  let q' := match slot with
    | .order => { q with order := q.nextOrder.map fun n => { content := .new n, count := 0 }, nextOrder := none }
    | .direct => { q with direct := q.direct.drop 1 }
    | .floor => { q with floor := q.floorHeld.map fun c => { content := c, count := 0 }, floorHeld := none }
    | .askref => { q with askref := if q.askrefHeld then some 0 else none, askrefHeld := false }
    | .hold => { q with hold := if q.holdHeld then some 0 else none, holdHeld := false }
  { s with sq := q' }

/-- One frame's count after an attempt that counts `n`. -/
def Slotted.bump {α : Type} (n : Nat) (x : Slotted α) : Slotted α := { x with count := x.count + n }

/-- R40, R42, R43: the frame in flight stays pending after an attempt that counts `n` (1 when OBJECTED, 0 when LOST or
ABANDONED): a frame held for the slot replaces it, with the count cleared in the ORDER and FLOOR slots and kept in the
ASKREF and HOLD slots. -/
def keepPending (slot : SlotId) (n : Nat) (s : State) : State :=
  let q := { s.sq with inFlight := none }
  let q' := match slot with
    | .order =>
      match q.nextOrder with
      | some o => { q with order := some { content := .new o, count := 0 }, nextOrder := none }
      | none => { q with order := q.order.map (Slotted.bump n) }
    | .direct =>
      match q.direct with
      | d :: rest => { q with direct := d.bump n :: rest }
      | [] => q
    | .floor =>
      match q.floorHeld with
      | some c => { q with floor := some { content := c, count := 0 }, floorHeld := none }
      | none => { q with floor := q.floor.map (Slotted.bump n) }
    | .askref => { q with askref := q.askref.map (· + n), askrefHeld := false }
    | .hold => { q with hold := q.hold.map (· + n), holdHeld := false }
  { s with sq := q' }

/-- R42: the count of the frame in flight. -/
def State.flightCount (s : State) (slot : SlotId) : Nat :=
  match slot with
  | .order => (s.sq.order.map Slotted.count).getD 0
  | .direct => (s.sq.direct.head?.map Slotted.count).getD 0
  | .floor => (s.sq.floor.map Slotted.count).getD 0
  | .askref => s.sq.askref.getD 0
  | .hold => s.sq.hold.getD 0

/-- R50: the FLOOR frame of the restart: a YIELD or a WITHDRAW with reason RESTART. -/
def Flight.isRestartFrame (fl : Flight) : Bool :=
  decide (fl.slot = .floor) &&
    match fl.frame.body with
    | .yield _ r => decide (r = BitVec.ofNat 3 (yieldCode .restart))
    | .withdraw r => decide (r = BitVec.ofNat 2 (causeCode .restart))
    | _ => false

/-! ## An arrival at every block -/

/-- R17, R24: the Floor View, the Request Line, the Floor Order and the Speech Timer act on a screened frame. -/
def floorArrival (own clash : Bool) (f : Frame) (s : State) : State :=
  timerArrival f (orderArrivalFO clash f (lineArrival own f (viewArrival f s)))

/-- R17, R24, R35, R130: an accepted frame of another station: it is offered to the feed as read; the blocks of the floor
act on it as screened; the Seat Agent finds an address clash, or acts on it as screened, and evaluates on the signals. -/
def foreignArrival (f : Frame) (s : State) : State :=
  let clash := s.clashes false f
  let s0 := offerFeed false f s
  match actingFrame f with
  | none => if clash then addressClash s0 else s0
  | some g =>
    let s1 := floorArrival false clash g s0
    if clash then addressClash s1 else signals s0 (seatArrival g s0 s1)

/-- An arrival command: it comes only while LI can take part in a frame (R3, R13, R17, R18), and ends with the slot
(R14). -/
def arrival (f : Frame) (s : State) : State :=
  if s.receives then checkRestart (foreignArrival f (slotRecessive (lineIdle s))) else s

/-! ## Completion -/

/-- R163: at a chair's speech LIVE entry the muting flag follows priority held; a change places the immediate HOLD. -/
def syncMuting (h : OwnLane) (s : State) : State :=
  if s.isChair ∧ h.muting ≠ s.flags.priorityHeld then
    placeHold { s with seat := .live { h with muting := s.flags.priorityHeld } }
  else s

/-- R152: at a speech LIVE entry by a voice take whose release counter already stands at H, a release is reported. -/
def releaseAtEntry (h : OwnLane) (s : State) : State :=
  if h.tookBy = .voice ∧ s.prof.releaseHold ≤ s.vu.release then voiceRelease s else s

/-- R123, R136, R157, R163: the speech LIVE entry. -/
def enterLive (h : OwnLane) (s : State) : State :=
  let s1 := post .sa (.live h.lane) { s with seat := .live h }
  releaseAtEntry h (syncMuting h (gateSpeech h.lane (speechStart s1)))

/-- R120: a TAKE that completes with the cancel latch set: the seat passes through LIVE into YIELDING at once. No speech
start is signalled, and the speech end of the passage finds speaking clear (R144). -/
def passThroughLive (h : OwnLane) (c : Cause) (s : State) : State :=
  let r : YieldReason := if c = .restart then .restart else .key
  let s1 := placeFloor (.yield h.lane r) (speechEnd { s with flags := { s.flags with cancelLatch := none } })
  { s1 with seat := .yielding h r }

/-- R120, R123: the completion of the seat's TAKE. -/
def takeCompleted (lane : Fin 8) (muting : Bool) (s : State) : State :=
  match s.seat with
  | .taking t =>
    let h : OwnLane := { lane := lane, tookBy := t.kind, muting := s.isChair && muting }
    match s.flags.cancelLatch with
    | some c => passThroughLive h c s
    | none => enterLive h s
  | _ => s

/-- R82, R120: the completion of the seat's new ASK, whose key is the ticket; a cancel latch turns it into a WITHDRAW. A
seat that becomes WAITING evaluates at once (R92). -/
def askCompleted (ticket : Nat) (s : State) : State :=
  match s.seat with
  | .asking =>
    match s.flags.cancelLatch with
    | some c =>
      let s1 := endOwnAsk (if c = .restart then .restart else .withdrawn)
        { s with flags := { s.flags with cancelLatch := none } }
      enterIdle (placeFloor (.withdraw ticket c) s1)
    | none => evaluate { askLive ticket s with seat := .waiting }
  | _ => s

/-- R123: the completion of the seat's YIELD. -/
def yieldCompleted (s : State) : State :=
  match s.seat with
  | .yielding _ _ => enterIdle s
  | _ => s

/-- R120, R123: the owner's completion effects by the frame completed. A refresh, a HOLD, a WITHDRAW and a DIRECT have
none, and an ORDER's are its adoption (R98, R99). -/
def ownerCompleted (f : Frame) (s : State) : State :=
  match f.body with
  | .take lane _ muting => takeCompleted (laneOf lane) muting s
  | .ask refresh => if refresh then s else askCompleted f.head.key.toNat s
  | .yield .. => yieldCompleted s
  | _ => s

/-- R41, R48: a COMPLETED ORDER sets a chair's repeat count to 0. -/
def orderSent (slot : SlotId) (s : State) : State :=
  if slot = .order then { s with sq := { s.sq with repeatCount := 0 } } else s

/-- R17, R41: the own arrival and the completion, one outcome of one frame. -/
def ownArrival (f : Frame) (s : State) : State :=
  let s0 := offerFeed true f s
  match actingFrame f with
  | none => ownerCompleted f s0
  | some g => signals s0 (ownerCompleted g (seatArrival g s0 (floorArrival true false g s0)))

/-- R41: a COMPLETED attempt. A sender with a bit fault never has one (R9). -/
def attemptCompleted (s : State) : State :=
  match s.sq.inFlight with
  | some fl =>
    if s.li.bitFault then s
    else checkRestart (ownArrival fl.frame (orderSent fl.slot (takeOut fl.slot (slotRecessive (lineIdle s)))))
  | none => s

/-! ## Attempts that do not complete -/

/-- R94, R120, R132: the cancel latch at an ASK attempt that does not complete: the ASK leaves and the Own Ask ends. -/
def cancelledAsk (c : Cause) (s : State) : State :=
  enterIdle (endOwnAsk (if c = .restart then .restart else .withdrawn)
    (removeFloor { s with flags := { s.flags with cancelLatch := none } }))

/-- R94, R120, R132: the cancel latch at a TAKE attempt that does not complete: the TAKE leaves; a latch set by RESTART takes
a LIVE Own Ask out of the line. -/
def cancelledTake (c : Cause) (s : State) : State :=
  let s1 := removeFloor { s with flags := { s.flags with cancelLatch := none } }
  match s.seat with
  | .taking t => if c = .restart then leaveLine s1 else leaveTake t s1
  | _ => s1

/-- R132: a YIELD in flight at the command has ended without completion: a YIELD(RESTART) takes its place. -/
def yieldAgain (s : State) : State :=
  match s.seat with
  | .yielding h _ => { placeFloor (.yield h.lane .restart) s with seat := .yielding h .restart }
  | _ => s

/-- R40, R50, R120, R132: an attempt ends with its frame still pending: it stays in its slot, unless a restart removes it;
then the Seat Agent acts on its latch. -/
def attemptStays (fl : Flight) (n : Nat) (s : State) : State :=
  let s1 := if s.flags.restartPending ∧ ¬ fl.isRestartFrame then takeOut fl.slot s else keepPending fl.slot n s
  if fl.slot = .floor then
    match fl.frame.body, s.flags.cancelLatch with
    | .ask _, some c => cancelledAsk c s1
    | .take .., some c => cancelledTake c s1
    | .yield .., _ => if s.flags.restartPending ∧ ¬ fl.isRestartFrame then yieldAgain s1 else s1
    | _, _ => s1
  else s1

/-- R124: the Seat Agent's reaction to a dropped TAKE without a latch. -/
def takeDropped (s : State) : State :=
  match s.seat with
  | .taking t =>
    match t.kind with
    | .line | .grant => { s with seat := .waiting }
    | .key =>
      if s.role = .delegate ∧ s.order.mode = .openFloor ∧ t.key = 0 then askNew s else refuse .send (enterIdle s)
    | _ => refuse .send (enterIdle s)
  | _ => s

/-- R42, R120, R124, R132: the owner's reaction to a dropped frame. -/
def ownerDropped (fl : Flight) (s : State) : State :=
  if fl.slot = .floor then
    match fl.frame.body, s.flags.cancelLatch with
    | .ask _, some c => cancelledAsk c s
    | .take .., some c => cancelledTake c s
    | .ask _, none => if s.seat = .asking then refuse .send (enterIdle (refuseOwnAsk s)) else s
    | .take .., none => takeDropped s
    | .yield .., _ =>
      if s.flags.restartPending ∧ ¬ fl.isRestartFrame then yieldAgain s
      else match s.seat with
        | .yielding _ _ => enterIdle s
        | _ => s
    | _, _ => s
  else s

/-- R42: the fourth counted attempt: the frame is dropped and SEND_FAILED posted with its class. -/
def attemptDropped (fl : Flight) (s : State) : State :=
  ownerDropped fl (post .sq (.sendFailed fl.frame.body.cls) (takeOut fl.slot s))

/-- R42: an OBJECTED attempt counts 1 against its frame. -/
def attemptObjected (s : State) : State :=
  match s.sq.inFlight with
  | some fl =>
    let s1 := lineIdle s
    checkRestart (if 3 ≤ s.flightCount fl.slot then attemptDropped fl s1 else attemptStays fl 1 s1)
  | none => s

/-- R8: arbitration is lost: LI becomes a receiver of the winning frame, and the frame stays pending, uncounted. It can be
lost only before it is won. The frame's dominant bits have set the idle count to 0 (R3). The command does not give the field bit of the loss, so the receive buffer, the lead bit count, the run
count, the CRC register and the dominant count stand as they were (DESIGN CHOICE, log entry 16). -/
def attemptLost (s : State) : State :=
  match s.sq.inFlight with
  | some fl =>
    if (s.li.status = .lead ∨ s.li.status = .arbitrating) ∧ ¬ s.li.bitFault then
      checkRestart (attemptStays fl 0 { s with li := { s.li with status := .receiving, idleCount := 0, tx := [] } })
    else s
  | none => s

/-! ## Faults and the stuck line -/

/-- R5, R7, R11, R13, R14: a received frame is discarded. A station with a stuff fault or a format fault starts its burst,
unless it is in LISTEN. -/
def discardFrame (cause : DiscardCause) (s : State) : State :=
  let s1 := lineIdle s
  if (cause = .stuffFault ∨ cause = .formatFault) ∧ s.seat ≠ .listen then { s1 with li := { s1.li with burstLeft := 7 } }
  else s1

/-- R14: a discard command: it comes only while LI takes part in another station's frame. -/
def frameDiscard (cause : DiscardCause) (s : State) : State := if s.receives then discardFrame cause s else s

/-- R13: the objection burst ends and LI releases the line. The dominant count of R18 stands as it was (DESIGN CHOICE, log entry
16). -/
def burstEnd (s : State) : State := { s with li := { s.li with burstLeft := 0 } }

/-- R18: LI enters STUCK: every drive stops, and a frame in flight ends ABANDONED, uncounted. -/
def enterStuck (s : State) : State :=
  let s1 := lineIdle s
  let s2 := post .li .lineStuck { s1 with li := { s1.li with status := .stuck, dominantRun := 64, burstLeft := 0 } }
  match s.sq.inFlight with
  | some fl => checkRestart (attemptStays fl 0 s2)
  | none => s2

/-- R18: LINE_STUCK is posted once for each entry to STUCK. -/
def lineStuck (s : State) : State := if s.li.status = .stuck then s else enterStuck s

/-- R19: LI leaves STUCK with the line free; the end of the tenth recessive bit is a start boundary. -/
def lineClear (s : State) : State :=
  if s.li.status = .stuck then
    checkRestart
      (offerFrame (post .li .lineClear { s with li := { s.li with status := .idle, idleCount := 10, dominantRun := 0 } }))
  else s

end Sys2Proof.Machine
end

