-- ==== Sys2Proof/Machine/LineBits.lean ====
section
/-! DEFINITION. One bit time of the Line Interface (chapter 1): what LI does with the line value it reads. It is what a step
does when no command waits and no edge of the panel port comes (log entry 3). A line value is true when it is recessive. -/

namespace Sys2Proof.Machine

open Sys2Proof

/-- R7, R11: the bits of a frame before stuffing, class through CRC, by the class in the first three bits of the buffer. -/
def frameLength (rx : List Bool) : Nat := 31 + bodyLength (natOfBits (rx.take 3)) + 16

/-- R12: whether the bit after those in the buffer is covered by the CRC. -/
def crcCovers (rx : List Bool) : Bool :=
  decide (rx.length < 31) || decide (rx.length < 31 + bodyLength (natOfBits (rx.take 3)))

/-- One destuffed bit into the receive buffer and, where it is covered, the CRC register. -/
def pushBit (v : Bool) (s : State) : State :=
  { s with li := { s.li with
      crc := if crcCovers s.li.rx then crcStep s.li.crc v else s.li.crc
      rx := s.li.rx ++ [v] } }

/-- R6: the run count takes one more line value. -/
def countRun (v : Bool) (s : State) : State :=
  let r := nextRun s.li.runValue s.li.runLength v
  { s with li := { s.li with runValue := r.1, runLength := r.2 } }

/-- R12: a receiver's CRC fault: the register over the bits read differs from the 16 CRC bits read. -/
def State.crcFault (s : State) : Bool :=
  decide (s.li.crc.toNat ≠ natOfBits (s.li.rx.drop (s.li.rx.length - 16)))

/-- R12, R14: a receiver that has read a whole frame enters SLOT, and objects there when it has a CRC fault and is not in
LISTEN. -/
def enterSlot (s : State) : State :=
  { s with li := { s.li with status := .slot, objecting := s.crcFault && decide (s.seat ≠ .listen) } }

/-- R7: whether the last CRC bit has been read and no stuff bit is due after it. -/
def State.frameRead (s : State) : Bool :=
  decide (3 ≤ s.li.rx.length ∧ frameLength s.li.rx ≤ s.li.rx.length ∧ s.li.runLength ≠ 6)

/-- R7, R11: a bit of a frame received: a stuff bit is checked and dropped; a field bit goes to the buffer, and the third
may be a format fault. -/
def receiveBit (v : Bool) (s : State) : State :=
  if s.li.runLength = 6 then
    if v = s.li.runValue then discardFrame .stuffFault s
    else
      let s1 := countRun v s
      if s1.frameRead then enterSlot s1 else s1
  else
    let s1 := countRun v (pushBit v s)
    if s1.li.rx.length = 3 ∧ natOfBits s1.li.rx = 7 then discardFrame .formatFault s1
    else if s1.frameRead then enterSlot s1
    else s1

/-- R5: a receiver's lead bit: after the first dominant bit the line must be recessive, dominant, dominant. -/
def receiveLead (v : Bool) (s : State) : State :=
  if v = decide (s.li.leadBits = 1) then
    let s1 := countRun v { s with li := { s.li with leadBits := s.li.leadBits + 1 } }
    if s1.li.leadBits = 4 then { s1 with li := { s1.li with status := .receiving } } else s1
  else discardFrame .leadFault s

/-- R9, R14: after the bits still to be sent become `rest`, a sender with none left enters SLOT; one that has had a bit
fault objects there. -/
def sendOn (rest : List TxBit) (s : State) : State :=
  let s1 := { s with li := { s.li with tx := rest } }
  match rest with
  | [] => { s1 with li := { s1.li with status := .slot, objecting := s1.li.bitFault } }
  | b :: _ =>
    if s1.li.bitFault then { s1 with li := { s1.li with status := .sending } }
    else match b.part with
      | .lead => s1
      | .field => { s1 with li := { s1.li with status := .arbitrating } }
      | .stuff => s1
      | .data => { s1 with li := { s1.li with status := .sending } }

/-- R3: a dominant line value sets the idle count to 0, so the line is no longer free from the first lead bit of this station's
own frame on (R5; log entry 32). -/
def busyLine (v : Bool) (s : State) : State :=
  if v then s else { s with li := { s.li with idleCount := 0 } }

/-- R8, R12: whether a bit sent goes, as read, into the buffer and, where it is covered, into the CRC register: every bit of class
through CRC but the stuff bits. That the buffer of a sender holds its body and CRC bits too is read from R8 (log entry 32). -/
def TxPart.buffered : TxPart → Bool
  | .field => true
  | .data => true
  | .lead => false
  | .stuff => false

/-- R5, R8, R9: a bit of a frame sent: a recessive field bit read dominant loses arbitration, any other bit read otherwise
than sent is a bit fault, and a sender with a bit fault follows its own frame undriven. -/
def sendBit (v : Bool) (b : TxBit) (rest : List TxBit) (s : State) : State :=
  if s.li.bitFault then sendOn rest (busyLine v s)
  else
    let s1 := countRun v (if b.part.buffered then pushBit v (busyLine v s) else busyLine v s)
    if v = b.value then sendOn rest s1
    else if b.part = .field ∧ b.value = true then attemptLost s1
    else sendOn rest { s1 with li := { s1.li with bitFault := true } }

/-- R14: the slot as read, at a sender and at a receiver. -/
def readSlot (v : Bool) (s : State) : State :=
  match s.sq.inFlight with
  | some _ => if v ∧ ¬ s.li.bitFault then attemptCompleted s else attemptObjected s
  | none =>
    if s.crcFault then discardFrame .crcFault s
    else if v then
      match parseFrame s.li.rx with
      | some f => arrival f s
      | none => discardFrame .slotDominant s
    else discardFrame .slotDominant s

/-- R3, R4, R5, R13: a bit in IDLE: the burst goes on, a frame begins on a free line, or the idle count moves and may reach a
start boundary. -/
def idleBit (v : Bool) (s : State) : State :=
  if 0 < s.li.burstLeft then { s with li := { s.li with burstLeft := s.li.burstLeft - 1, idleCount := 0 } }
  else if v then
    let s1 := { s with li := { s.li with idleCount := min 10 (s.li.idleCount + 1) } }
    if s1.li.idleCount = 10 then startBoundary s1 else s1
  else if s.li.idleCount = 10 then
    { s with li := { s.li with status := .lead, idleCount := 0, leadBits := 1, runValue := false, runLength := 1, rx := [],
                               crc := 0xFFFF, tx := [] } }
  else { s with li := { s.li with idleCount := 0 } }

/-- R19: a bit in STUCK: ten consecutive recessive bits clear the line. -/
def stuckBit (v : Bool) (s : State) : State :=
  if v then
    if s.li.idleCount + 1 < 10 then { s with li := { s.li with idleCount := s.li.idleCount + 1 } } else lineClear s
  else { s with li := { s.li with idleCount := 0 } }

/-- R18: consecutive dominant line values, stopping at 64. -/
def countDominant (v : Bool) (n : Nat) : Nat := if v then 0 else min 64 (n + 1)

/-- Chapter 1: LI reads one line value. The 64th consecutive dominant value takes LI to STUCK whatever that bit is in the frame:
where it is this station's own objection slot, the attempt ends ABANDONED and uncounted (R16, R18) and not OBJECTED and
counted (R9, R14), an order that the rules do not give (DESIGN CHOICE, log entry 28). -/
def readBit (v : Bool) (s : State) : State :=
  let n := countDominant v s.li.dominantRun
  let s1 := { s with li := { s.li with dominantRun := n } }
  if s.li.status = .stuck then stuckBit v s1
  else if n = 64 then enterStuck s1
  else match s.li.status with
    | .idle => idleBit v s1
    | .lead | .arbitrating | .sending =>
      match s.li.tx with
      | b :: rest => sendBit v b rest s1
      | [] => receiveLead v s1
    | .receiving => receiveBit v s1
    | .slot => readSlot v s1
    | .stuck => s1

/-- R1: one bit time, in which the other stations drive `others`: the line value includes this station's own drive. While RST_N
is low LI reads nothing (R20). -/
def lineBit (others : Bool) (s : State) : State :=
  if s.resetLow then s else flush (readBit (s.flTx && others) s)

end Sys2Proof.Machine
end

