-- ==== Sys2Proof/Machine/Panel.lean ====
section
/-! DEFINITION. The Panel Port (chapter 11): the refusals of a command, the response records, and the reads with what their
last byte removes; and the chair's two commands (R170, R171). -/

namespace Sys2Proof.Machine

open Sys2Proof

/-! ## Bytes of a response -/

/-- One byte field. -/
def byte1 (n : Nat) : List Byte := [BitVec.ofNat 8 n]

/-- R179: a two-byte field, most significant byte first. -/
def byte2 (n : Nat) : List Byte := [BitVec.ofNat 8 (n / 256), BitVec.ofNat 8 n]

/-- R182: a signed two-byte field, two's complement. -/
def byteSigned (x : Int) : List Byte := byte2 (BitVec.ofInt 16 x).toNat

/-- A flag as a byte. -/
def byteFlag (b : Bool) : List Byte := byte1 (if b then 1 else 0)

/-- R182: the flags byte of the status record. -/
def State.statusFlags (s : State) : Nat :=
  (if s.muteActive then 1 else 0) + (if s.li.status = .stuck then 2 else 0) + (if s.flags.clash then 4 else 0)
    + (if s.pp.overflow then 8 else 0) + (if s.vu.trim.isSome then 16 else 0)
    + (if s.invalidAddress then 32 else 0) + (if s.pp.feedOn then 64 else 0)

/-- R182: the 36-byte status record. -/
def State.statusRecord (s : State) : List Byte :=
  byte2 s.addr ++ byte1 (roleCode s.role) ++ byte1 s.seat.code
    ++ byte1 (match s.seat.own? with | some h => h.lane.val | none => 255)
    ++ byte1 (match s.seat.own? with | some h => kindCode h.tookBy | none => 255)
    ++ byte2 (match s.ownAsk with | .live t => t | _ => 0)
    ++ byte1 (s.rank?.getD 255) ++ byte1 s.st.phase.code ++ byte2 s.st.remaining
    ++ byteSigned s.st.correction ++ byte2 s.st.elapsed ++ byte2 s.st.waitMeter ++ byte2 s.st.lastWait
    ++ byte2 s.st.lastSpeech ++ byte1 s.level ++ byte1 s.vu.threshold ++ byte1 (modeCode s.order.mode)
    ++ byte1 s.order.laneLimit ++ byte1 s.order.allowance ++ byte1 s.order.grace ++ byte1 s.order.capacity
    ++ byte1 s.order.sequence.toNat ++ byte2 s.order.source ++ byte1 (originCode s.order.origin)
    ++ byte1 s.statusFlags ++ byte1 s.pp.events.length ++ byte1 s.pp.feed.length

/-- R182: one lane record, 10 bytes. -/
def Lane.bytes : Lane → List Byte
  | .free => List.replicate 10 0
  | .held r =>
    byte1 1 ++ byte2 r.holder ++ byte1 (roleCode r.standing) ++ byte2 r.ticket ++ byte2 r.age ++ byte1 r.silence
      ++ byte1 ((if r.muting then 1 else 0) + (if r.warned then 2 else 0))

/-- R182: the eight lane records, in lane order. -/
def State.lanesRecord (s : State) : List Byte := laneNumbers.flatMap fun i => s.lanes[i].bytes

/-- R182: one line entry, six bytes. -/
def Entry.bytes (e : Entry) : List Byte :=
  byte2 e.asker ++ byte2 e.ticket ++ byte1 (roleCode e.standing) ++ byte1 e.silence

/-- R182: the count byte and the entries in window order. -/
def State.lineRecord (s : State) : List Byte := byte1 s.window.length ++ s.window.flatMap Entry.bytes

/-- R182, R186: the event record of the head entry, or the none record. -/
def State.eventRecord (s : State) : List Byte :=
  match s.pp.events with
  | [] => List.replicate 5 0
  | r :: _ => byte1 r.event.code ++ byte2 r.event.arg ++ byte2 r.stamp

/-- R182: the body bytes of a feed record, before the unused ones. -/
def Body.bytes : Body → List Byte
  | .order source sequence mode l a g c clear =>
    byte2 source.toNat ++ byte1 sequence.toNat ++ byte1 mode.toNat ++ byte1 l.toNat ++ byte1 a.toNat ++ byte1 g.toNat
      ++ byte1 c.toNat ++ byteFlag clear
  | .direct target action argument => byte2 target.toNat ++ byte1 action.toNat ++ byteSigned argument.toInt
  | .yield lane reason => byte1 lane.toNat ++ byte1 reason.toNat
  | .take lane displace muting => byte1 lane.toNat ++ byteFlag displace ++ byteFlag muting
  | .withdraw reason => byte1 reason.toNat
  | .ask refresh => byteFlag refresh
  | .hold elapsed muting warned => byte2 elapsed.toNat ++ byteFlag muting ++ byteFlag warned

/-- R182: a feed record, 16 bytes: class, standing, key, sender, own flag, and nine body bytes. -/
def FeedRec.bytes (r : FeedRec) : List Byte :=
  byte1 r.frame.body.cls ++ byte1 (roleCode r.frame.head.standing) ++ byte2 r.frame.head.key.toNat
    ++ byte2 r.frame.head.sender.toNat ++ byteFlag r.own
    ++ (r.frame.body.bytes ++ List.replicate (9 - r.frame.body.bytes.length) 0)

/-- R187: the held count and the oldest record. -/
def State.feedRecord (s : State) : List Byte :=
  byte1 s.pp.feed.length ++ (match s.pp.feed with | [] => List.replicate 16 0 | r :: _ => r.bytes)

/-! ## Status codes and transactions -/

/-- R180: the status codes. -/
inductive PanelStatus where
  | ok | busy | notChair | badArg | settling | listenOnly | unknown
  deriving DecidableEq, Repr

/-- R180: their values. -/
def PanelStatus.code : PanelStatus → Byte
  | .ok => 0
  | .busy => 1
  | .notChair => 2
  | .badArg => 3
  | .settling => 4
  | .listenOnly => 5
  | .unknown => 6

/-- R179: a new transaction executes its command, with PSEL low: it carries the status and the response, of which nothing has
been clocked out. The transaction before it has ended, so an event entry it was reading stays at the head unmarked (R186). -/
def answer (command : Byte) (status : PanelStatus) (response : List Byte) (last : LastByte) (s : State) : State :=
  { s with pp := { s.pp with
      psel := true
      shift := none
      pdoBit := false
      reading := false
      transaction := some { command := command, status := status.code, response := response, lastByte := last,
                            clocked := 0 } } }

/-- R180: the refusals that come before a command's own checks: BUSY in a restart's wait, then LISTEN_ONLY and SETTLING for
the commands each is given for. -/
def State.refusal (s : State) (inListen inSettling : Bool) : Option PanelStatus :=
  if s.flags.restartPending then some .busy
  else if inListen && decide (s.seat = .listen) then some .listenOnly
  else if inSettling && s.seat.isSettling then some .settling
  else none

/-- R180: a command other than a read: the refusals, then its own checks and, when they pass, its effect. -/
def command (code : Byte) (inListen inSettling : Bool) (check : PanelStatus) (effect : State → State) (s : State) :
    State :=
  match s.refusal inListen inSettling with
  | some r => answer code r [] .nothing s
  | none => if check = .ok then effect (answer code .ok [] .nothing s) else answer code check [] .nothing s

/-! ## The commands -/

/-- R183: READ_STATUS: the overflow-since-snapshot latch is cleared, and the last byte clears an overflow flag that the
record shows. -/
def readStatus (s : State) : State :=
  let s1 := answer 0x01 .ok s.statusRecord (if s.pp.overflow then .clearOverflow else .nothing) s
  { s1 with pp := { s1.pp with overflowSince := false } }

/-- R182: READ_LANES. -/
def readLanes (s : State) : State := answer 0x02 .ok s.lanesRecord .nothing s

/-- R182: READ_LINE. -/
def readLineWindow (s : State) : State := answer 0x03 .ok s.lineRecord .nothing s

/-- R186: TAKE_EVENT: the head entry, when there is one, is marked as being read. -/
def takeEvent (s : State) : State :=
  let s1 := answer 0x04 .ok s.eventRecord (if s.pp.events.isEmpty then .nothing else .removeEvent) s
  { s1 with pp := { s1.pp with reading := !s.pp.events.isEmpty } }

/-- R187: READ_FEED. -/
def readFeed (s : State) : State :=
  answer 0x05 .ok s.feedRecord (if s.pp.feed.isEmpty then .nothing else .removeFeed) s

/-- R181: the key a KEY command names. -/
def keyOfByte (b : Byte) : Option KeyId :=
  if b = 1 then some .k1 else if b = 2 then some .k2 else if b = 3 then some .k3 else none

/-- R181: KEY. -/
def panelKey (key action : Byte) (s : State) : State :=
  match keyOfByte key with
  | some k =>
    command 0x10 true true (if action = 0 ∨ action = 1 then .ok else .badArg) (keyReport k (decide (action = 1)) .panel) s
  | none => command 0x10 true true .badArg id s

/-- R154, R181: TRIM. -/
def panelTrim (s : State) : State := command 0x11 false false (if s.trimBusy then .busy else .ok) startTrim s

/-- R131, R181: RESTART. -/
def panelRestart (s : State) : State := command 0x12 true false .ok (fun s => checkRestart (restart s)) s

/-- R181: FEED. -/
def panelFeed (arg : Byte) (s : State) : State :=
  command 0x13 false false (if arg = 0 ∨ arg = 1 then .ok else .badArg)
    (fun s => { s with pp := { s.pp with feedOn := decide (arg = 1) } }) s

/-- R171: the checks of SET_ORDER. -/
def State.orderCheck (s : State) (mode l g c clear : Byte) : PanelStatus :=
  if ¬ s.isChair then .notChair
  else if mode.toNat ≤ 3 ∧ (1 ≤ l.toNat ∧ l.toNat ≤ 8) ∧ g.toNat ≤ 60 ∧ (1 ≤ c.toNat ∧ c.toNat ≤ 32) ∧ clear.toNat ≤ 1
  then .ok
  else .badArg

/-- R102, R171: SET_ORDER: a new order with the command's content. -/
def panelSetOrder (mode l a g c clear : Byte) (s : State) : State :=
  command 0x20 true true (s.orderCheck mode l g c clear)
    (placeOrder (.fixed { mode := modeOfCode mode.toNat, laneLimit := l.toNat, allowance := a.toNat, grace := g.toNat,
                          capacity := c.toNat, clear := decide (clear = 1) })) s

/-- R170: the checks of SEND_DIRECT, in their order. -/
def State.directCheck (s : State) (target : BitVec 16) (action : Byte) (argument : BitVec 16) : PanelStatus :=
  if ¬ s.isChair then .notChair
  else if 1000 < target.toNat then .badArg
  else if 3 < action.toNat then .badArg
  else if action = 1 ∧ target = 0 then .badArg
  else if action = 2 ∧ ¬ (-4095 ≤ argument.toInt ∧ argument.toInt ≤ 4095) then .badArg
  else if s.fifoFull then .busy
  else .ok

/-- R170: SEND_DIRECT: an EXTEND carries the command's argument, and the other actions carry 0. -/
def panelSendDirect (target : BitVec 16) (action : Byte) (argument : BitVec 16) (s : State) : State :=
  command 0x21 true true (s.directCheck target action argument)
    (pushDirect { target := BitVec.ofNat 10 target.toNat, action := BitVec.ofNat 3 action.toNat,
                  argument := if action = 2 then BitVec.ofInt 13 argument.toInt else 0 }) s

/-- R180: a byte that is none of the eleven codes is answered UNKNOWN. -/
def unknownCommand (code : Byte) (s : State) : State :=
  if commandCodes.contains code then s else answer code .unknown [] .nothing s

/-- R179, R186: PSEL rises: no transaction is in progress, a command not yet executed is lost, and an event entry that was being
read stays at the head, unmarked. -/
def deselect (s : State) : State :=
  { s with pp := { s.pp with psel := false, shift := none, pdoBit := false, reading := false, transaction := none } }

/-- R179: PSEL rises before the last argument byte: nothing is executed. -/
def transactionAbandoned (s : State) : State := deselect s

/-- What the last byte of the response in progress still does. -/
def State.lastByte (s : State) : LastByte :=
  match s.pp.transaction with
  | some t => t.lastByte
  | none => .nothing

/-- R179: the bits of a transaction's status and response. -/
def Transaction.length (t : Transaction) : Nat := 8 * (1 + t.response.length)

/-- The last byte of the response has been clocked out. -/
def lastByteOut (s : State) : State :=
  { s with pp := { s.pp with
      transaction := s.pp.transaction.map fun t => { t with lastByte := .nothing, clocked := t.length } } }

/-- R186: the last byte of an event record is clocked out: the entry being read leaves the queue. A restart's completion in
between has emptied it (R189), and then nothing is removed. -/
def removeEvent (s : State) : State :=
  if s.lastByte = .removeEvent then
    let s1 := lastByteOut s
    if s.pp.reading then { s1 with pp := { s1.pp with events := s1.pp.events.drop 1, reading := false } } else s1
  else s

/-- R187: the last byte of a feed record is clocked out: the record leaves the queue. -/
def removeFeed (s : State) : State :=
  if s.lastByte = .removeFeed then
    let s1 := lastByteOut s
    { s1 with pp := { s1.pp with feed := s1.pp.feed.drop 1 } }
  else s

/-- R183: the last byte of a status record that showed overflow is clocked out: the flag is cleared unless an overflow came
since the snapshot. -/
def clearOverflow (s : State) : State :=
  if s.lastByte = .clearOverflow then
    let s1 := lastByteOut s
    if s.pp.overflowSince then s1 else { s1 with pp := { s1.pp with overflow := false } }
  else s

/-! ## The port's pins -/

/-- R179: bit n of a transaction's status and response on PDO, counted from 0, bytes in order, each most significant bit first;
0 in every byte after the response. -/
def Transaction.outBit (t : Transaction) (n : Nat) : Bool := ((t.status :: t.response).getD (n / 8) 0).getMsbD (n % 8)

/-- R179: a falling edge of PCLK: PDO changes to the next bit of the status and response, and carries 0 before the command is
executed. -/
def pclkFall (s : State) : State :=
  { s with pp := { s.pp with pdoBit := match s.pp.transaction with
      | some t => t.outBit t.clocked
      | none => false } }

/-- R179: PSEL falls: a new transaction starts. -/
def pselFall (s : State) : State := { deselect s with pp := { (deselect s).pp with psel := true, shift := some [] } }

/-- R179 and 00_scope.md section 1.3: PDO, driven while PSEL is low and released otherwise and while RST_N is low. -/
def State.pdo (s : State) : Option Bool := if s.resetLow ∨ ¬ s.pp.psel then none else some s.pp.pdoBit

end Sys2Proof.Machine
end

