-- ==== Sys2Proof/Machine/ArrivalCommands.lean ====
section
/-! DEFINITION. The meanings of the commands of one family: the accepted frames of other stations. -/

namespace Sys2Proof.Machine

open Sys2Proof

/-- ORDER_ARRIVAL (R26, R27, R97 to R101). -/
def execOrderArrival (h : Header) (source : AddrBits) (sequence : BitVec 8) (mode : BitVec 2)
    (laneLimit : BitVec 4) (allowance : BitVec 8) (grace : BitVec 6) (capacity : BitVec 6) (clear : Bool)
    (s : State) : Host.Outcome State Fault Refusal :=
  event (arrival { head := h, body := .order source sequence mode laneLimit allowance grace capacity clear }) s

/-- DIRECT_CUT_ARRIVAL (R28, R61, R127). -/
def execDirectCutArrival (h : Header) (target : AddrBits) (argument : BitVec 13)
    (s : State) : Host.Outcome State Fault Refusal :=
  event (arrival { head := h, body := .direct target 0 argument }) s

/-- DIRECT_GRANT_ARRIVAL (R28, R115). -/
def execDirectGrantArrival (h : Header) (target : AddrBits) (argument : BitVec 13)
    (s : State) : Host.Outcome State Fault Refusal :=
  event (arrival { head := h, body := .direct target 1 argument }) s

/-- DIRECT_EXTEND_ARRIVAL (R28, R29, R139). -/
def execDirectExtendArrival (h : Header) (target : AddrBits) (argument : BitVec 13)
    (s : State) : Host.Outcome State Fault Refusal :=
  event (arrival { head := h, body := .direct target 2 argument }) s

/-- DIRECT_DROP_ASK_ARRIVAL (R28, R88, R129). -/
def execDirectDropAskArrival (h : Header) (target : AddrBits) (argument : BitVec 13)
    (s : State) : Host.Outcome State Fault Refusal :=
  event (arrival { head := h, body := .direct target 3 argument }) s

/-- DIRECT_ACTION_4_7_ARRIVAL (R28): discarded after acceptance, yet offered to the feed and checked for a clash. -/
def execDirectAction47Arrival (h : Header) (target : AddrBits) (action : BitVec 3) (argument : BitVec 13)
    (s : State) : Host.Outcome State Fault Refusal :=
  event (arrival { head := h, body := .direct target action argument }) s

/-- YIELD_ARRIVAL (R30, R56). -/
def execYieldArrival (h : Header) (lane : BitVec 3) (reason : BitVec 3)
    (s : State) : Host.Outcome State Fault Refusal :=
  event (arrival { head := h, body := .yield lane reason }) s

/-- TAKE_ARRIVAL (R31, R54, R55, R87, R125). -/
def execTakeArrival (h : Header) (lane : BitVec 3) (displace : Bool) (muting : Bool)
    (s : State) : Host.Outcome State Fault Refusal :=
  event (arrival { head := h, body := .take lane displace muting }) s

/-- WITHDRAW_ARRIVAL (R32, R86). -/
def execWithdrawArrival (h : Header) (reason : BitVec 2) (s : State) : Host.Outcome State Fault Refusal :=
  event (arrival { head := h, body := .withdraw reason }) s

/-- ASK_ARRIVAL (R33, R85). -/
def execAskArrival (h : Header) (refresh : Bool) (s : State) : Host.Outcome State Fault Refusal :=
  event (arrival { head := h, body := .ask refresh }) s

/-- HOLD_ARRIVAL (R34, R57 to R60, R126). -/
def execHoldArrival (h : Header) (elapsed : BitVec 16) (muting : Bool) (warned : Bool)
    (s : State) : Host.Outcome State Fault Refusal :=
  event (arrival { head := h, body := .hold elapsed muting warned }) s

end Sys2Proof.Machine
end

