-- ==== Sys2Proof/Machine/AudioCommands.lean ====
section
/-! DEFINITION. The meanings of the commands of one family: the samples of LEVEL, their completions, and the timers of Gate Control. -/

namespace Sys2Proof.Machine

open Sys2Proof

/-- R158: the running gate delay expires. -/
def gateDelayExpiry (s : State) : State :=
  match s.gc.gateDelay with
  | .running _ => { s with gc := { s.gc with gateDelay := .expired } }
  | _ => s

/-- R159: the running duck tail expires and SPK_MUTE is released. -/
def duckTailExpiry (s : State) : State :=
  match s.gc.duckTail with
  | .running _ => { s with gc := { s.gc with duckTail := .stopped, spkMute := false } }
  | _ => s

/-- LEVEL_SAMPLE (R147 to R151). -/
def execLevelSample (x : BitVec 8) (s : State) : Host.Outcome State Fault Refusal :=
  event (levelSample x) s

/-- ATTACK_COMPLETION (R114, R150, R152). -/
def execAttackCompletion (s : State) : Host.Outcome State Fault Refusal :=
  event attackCompletion s

/-- RELEASE_COMPLETION (R128, R150, R152). -/
def execReleaseCompletion (s : State) : Host.Outcome State Fault Refusal :=
  event releaseCompletion s

/-- TRIM_COMPLETION (R155). -/
def execTrimCompletion (s : State) : Host.Outcome State Fault Refusal :=
  event trimCompletion s

/-- GATE_DELAY_EXPIRY (R158). -/
def execGateDelayExpiry (s : State) : Host.Outcome State Fault Refusal :=
  event gateDelayExpiry s

/-- DUCK_TAIL_EXPIRY (R159). -/
def execDuckTailExpiry (s : State) : Host.Outcome State Fault Refusal :=
  event duckTailExpiry s

end Sys2Proof.Machine
end

