-- ==== Sys2Proof/Machine/LineCommands.lean ====
section
/-! DEFINITION. The meanings of the commands of one family: the line's events: start boundaries, discards, the ends of attempts, and the stuck line. -/

namespace Sys2Proof.Machine

open Sys2Proof

/-- START_BOUNDARY (R3, R4, R38, R39). -/
def execStartBoundary (s : State) : Host.Outcome State Fault Refusal :=
  event startBoundary s

/-- FRAME_DISCARD (R5, R7, R11, R13, R14). -/
def execFrameDiscard (cause : DiscardCause) (s : State) : Host.Outcome State Fault Refusal :=
  event (frameDiscard cause) s

/-- OBJECTION_BURST_END (R13). -/
def execObjectionBurstEnd (s : State) : Host.Outcome State Fault Refusal :=
  event burstEnd s

/-- ATTEMPT_LOST (R8, R16, R42). -/
def execAttemptLost (s : State) : Host.Outcome State Fault Refusal :=
  event attemptLost s

/-- ATTEMPT_COMPLETED (R16, R17, R41, R123). -/
def execAttemptCompleted (s : State) : Host.Outcome State Fault Refusal :=
  event attemptCompleted s

/-- ATTEMPT_OBJECTED (R9, R16, R42, R124). -/
def execAttemptObjected (s : State) : Host.Outcome State Fault Refusal :=
  event attemptObjected s

/-- LINE_STUCK (R18). -/
def execLineStuck (s : State) : Host.Outcome State Fault Refusal :=
  event lineStuck s

/-- LINE_CLEAR (R19). -/
def execLineClear (s : State) : Host.Outcome State Fault Refusal :=
  event lineClear s

end Sys2Proof.Machine
end

