-- ==== Sys2Proof/Machine/PanelCommands.lean ====
section
/-! DEFINITION. The meanings of the commands of one family: the panel's transactions. -/

namespace Sys2Proof.Machine

open Sys2Proof

/-- READ_STATUS (R182, R183). -/
def execReadStatus (s : State) : Host.Outcome State Fault Refusal :=
  event readStatus s

/-- READ_LANES (R182). -/
def execReadLanes (s : State) : Host.Outcome State Fault Refusal :=
  event readLanes s

/-- READ_LINE (R182, R183). -/
def execReadLine (s : State) : Host.Outcome State Fault Refusal :=
  event readLineWindow s

/-- TAKE_EVENT (R186). -/
def execTakeEvent (s : State) : Host.Outcome State Fault Refusal :=
  event takeEvent s

/-- READ_FEED (R187). -/
def execReadFeed (s : State) : Host.Outcome State Fault Refusal :=
  event readFeed s

/-- KEY (R180, R181). -/
def execPanelKey (key : Byte) (action : Byte) (s : State) : Host.Outcome State Fault Refusal :=
  event (panelKey key action) s

/-- TRIM (R154, R180, R181). -/
def execPanelTrim (s : State) : Host.Outcome State Fault Refusal :=
  event panelTrim s

/-- RESTART (R131, R180, R181). -/
def execPanelRestart (s : State) : Host.Outcome State Fault Refusal :=
  event panelRestart s

/-- FEED (R180, R181). -/
def execPanelFeed (arg : Byte) (s : State) : Host.Outcome State Fault Refusal :=
  event (panelFeed arg) s

/-- SET_ORDER (R171, R180). -/
def execSetOrder (mode : Byte) (laneLimit : Byte) (allowance : Byte) (grace : Byte) (capacity : Byte)
    (clear : Byte)
    (s : State) : Host.Outcome State Fault Refusal :=
  event (panelSetOrder mode laneLimit allowance grace capacity clear) s

/-- SEND_DIRECT (R170, R180). -/
def execSendDirect (target : BitVec 16) (action : Byte) (argument : BitVec 16)
    (s : State) : Host.Outcome State Fault Refusal :=
  event (panelSendDirect target action argument) s

/-- UNKNOWN_COMMAND (R180). -/
def execUnknownCommand (code : Byte) (s : State) : Host.Outcome State Fault Refusal :=
  event (unknownCommand code) s

/-- TRANSACTION_ABANDONED (R179). -/
def execTransactionAbandoned (s : State) : Host.Outcome State Fault Refusal :=
  event transactionAbandoned s

/-- EVENT_RECORD_REMOVAL (R186). -/
def execEventRecordRemoval (s : State) : Host.Outcome State Fault Refusal :=
  event removeEvent s

/-- FEED_RECORD_REMOVAL (R187). -/
def execFeedRecordRemoval (s : State) : Host.Outcome State Fault Refusal :=
  event removeFeed s

/-- FEED_OVERFLOW_CLEAR (R183). -/
def execFeedOverflowClear (s : State) : Host.Outcome State Fault Refusal :=
  event clearOverflow s

end Sys2Proof.Machine
end

