-- ==== Sys2Proof/Machine/ResetCommands.lean ====
section
/-! DEFINITION. The meanings of the commands of one family: the two edges of RST_N and the completion of a restart. -/

namespace Sys2Proof.Machine

open Sys2Proof

/-- PIN_RESET_ASSERT (R20, R161, R178, R179, R188): RST_N goes low. -/
def execPinResetAssert (s : State) : Host.Outcome State Fault Refusal :=
  .next (if s.resetLow then s else assertReset s)

/-- PIN_RESET_RELEASE (R174): RST_N, which is low, is released. -/
def execPinResetRelease (addr : AddrBits) (role : Role) (profile : BitVec 2)
    (s : State) : Host.Outcome State Fault Refusal :=
  .next (if s.resetLow then releaseReset addr role profile s else s)

/-- RESTART_COMPLETION (R132, R133). Every event that can bring its conditions about ends with the same check. -/
def execRestartCompletion (s : State) : Host.Outcome State Fault Refusal :=
  event checkRestart s

end Sys2Proof.Machine
end

