-- ==== Sys2Proof/Machine/SeatCommands.lean ====
section
/-! DEFINITION. The meanings of the commands of one family: the keys and the refusal flash. -/

namespace Sys2Proof.Machine

open Sys2Proof

/-- R177: the flash ends; REQ then shows what the seat state and rank give. -/
def refusalFlashEnd (s : State) : State := { s with flash := .stopped }

/-- KEY_LEVEL_CHANGE (R175). The pin follows its level while RST_N is low too; Seat Controls then do not. -/
def execKeyLevelChange (key : KeyId) (pressed : Bool) (s : State) : Host.Outcome State Fault Refusal :=
  .next (if s.resetLow then setKey key { s.keyOf key with pin := pressed } s else keyLevelChange key pressed s)

/-- DEBOUNCE_EXPIRY (R175). -/
def execDebounceExpiry (key : KeyId) (s : State) : Host.Outcome State Fault Refusal :=
  event (debounceExpiry key) s

/-- REFUSAL_FLASH_END (R177). -/
def execRefusalFlashEnd (s : State) : Host.Outcome State Fault Refusal :=
  event refusalFlashEnd s

end Sys2Proof.Machine
end

