-- ==== Sys2Proof/Machine/TickCommands.lean ====
section
/-! DEFINITION. The meanings of the commands of one family: the view tick, what lapses at it, and the speech tick. -/

namespace Sys2Proof.Machine

open Sys2Proof

/-- VIEW_TICK (R45, R46, R48, R63, R68, R90, R107, R113, R145). -/
def execViewTick (s : State) : Host.Outcome State Fault Refusal :=
  event viewTick s

/-- LANE_LAPSE (R63, R64). -/
def execLaneLapse (lane : BitVec 3) (s : State) : Host.Outcome State Fault Refusal :=
  event (laneLapse (laneOf lane)) s

/-- MUTE_SOURCE_LAPSE (R68, R69, R141). -/
def execMuteSourceLapse (chair : AddrBits) (s : State) : Host.Outcome State Fault Refusal :=
  event (muteSourceLapse chair.toNat) s

/-- LINE_ENTRY_LAPSE (R90, R92). -/
def execLineEntryLapse (asker : AddrBits) (s : State) : Host.Outcome State Fault Refusal :=
  event (lineEntryLapse asker.toNat) s

/-- SETTLING_END (R103, R107). -/
def execSettlingEnd (s : State) : Host.Outcome State Fault Refusal :=
  event settlingEnd s

/-- ORDER_REPEAT (R48, R104). -/
def execOrderRepeat (s : State) : Host.Outcome State Fault Refusal :=
  event orderRepeat s

/-- SPEECH_TICK (R137, R140, R142). -/
def execSpeechTick (s : State) : Host.Outcome State Fault Refusal :=
  event speechTick s

/-- SPEECH_EXPIRY (R138, R128). -/
def execSpeechExpiry (s : State) : Host.Outcome State Fault Refusal :=
  event speechExpiry s

end Sys2Proof.Machine
end

