-- ==== Sys2Proof/Machine/Dispatch.lean ====
section
/-! DEFINITION. One arm for each command. -/

namespace Sys2Proof.Machine

open Sys2Proof

-- The effect of a command on everything but the queue.
def exec (i : Instr) (s : State) : Host.Outcome State Fault Refusal :=
  match i with
  | .pinResetAssert => Sys2Proof.Machine.execPinResetAssert s
  | .pinResetRelease addr role profile => Sys2Proof.Machine.execPinResetRelease addr role profile s
  | .startBoundary => Sys2Proof.Machine.execStartBoundary s
  | .frameDiscard cause => Sys2Proof.Machine.execFrameDiscard cause s
  | .objectionBurstEnd => Sys2Proof.Machine.execObjectionBurstEnd s
  | .attemptLost => Sys2Proof.Machine.execAttemptLost s
  | .attemptCompleted => Sys2Proof.Machine.execAttemptCompleted s
  | .attemptObjected => Sys2Proof.Machine.execAttemptObjected s
  | .lineStuck => Sys2Proof.Machine.execLineStuck s
  | .lineClear => Sys2Proof.Machine.execLineClear s
  | .orderArrival h source sequence mode laneLimit allowance grace capacity clear => Sys2Proof.Machine.execOrderArrival h source sequence mode laneLimit allowance grace capacity clear s
  | .directCutArrival h target argument => Sys2Proof.Machine.execDirectCutArrival h target argument s
  | .directGrantArrival h target argument => Sys2Proof.Machine.execDirectGrantArrival h target argument s
  | .directExtendArrival h target argument => Sys2Proof.Machine.execDirectExtendArrival h target argument s
  | .directDropAskArrival h target argument => Sys2Proof.Machine.execDirectDropAskArrival h target argument s
  | .yieldArrival h lane reason => Sys2Proof.Machine.execYieldArrival h lane reason s
  | .takeArrival h lane displace muting => Sys2Proof.Machine.execTakeArrival h lane displace muting s
  | .withdrawArrival h reason => Sys2Proof.Machine.execWithdrawArrival h reason s
  | .askArrival h refresh => Sys2Proof.Machine.execAskArrival h refresh s
  | .holdArrival h elapsed muting warned => Sys2Proof.Machine.execHoldArrival h elapsed muting warned s
  | .viewTick => Sys2Proof.Machine.execViewTick s
  | .laneLapse lane => Sys2Proof.Machine.execLaneLapse lane s
  | .muteSourceLapse chair => Sys2Proof.Machine.execMuteSourceLapse chair s
  | .lineEntryLapse asker => Sys2Proof.Machine.execLineEntryLapse asker s
  | .settlingEnd => Sys2Proof.Machine.execSettlingEnd s
  | .orderRepeat => Sys2Proof.Machine.execOrderRepeat s
  | .speechTick => Sys2Proof.Machine.execSpeechTick s
  | .speechExpiry => Sys2Proof.Machine.execSpeechExpiry s
  | .levelSample x => Sys2Proof.Machine.execLevelSample x s
  | .attackCompletion => Sys2Proof.Machine.execAttackCompletion s
  | .releaseCompletion => Sys2Proof.Machine.execReleaseCompletion s
  | .trimCompletion => Sys2Proof.Machine.execTrimCompletion s
  | .gateDelayExpiry => Sys2Proof.Machine.execGateDelayExpiry s
  | .duckTailExpiry => Sys2Proof.Machine.execDuckTailExpiry s
  | .keyLevelChange key pressed => Sys2Proof.Machine.execKeyLevelChange key pressed s
  | .debounceExpiry key => Sys2Proof.Machine.execDebounceExpiry key s
  | .refusalFlashEnd => Sys2Proof.Machine.execRefusalFlashEnd s
  | .readStatus => Sys2Proof.Machine.execReadStatus s
  | .readLanes => Sys2Proof.Machine.execReadLanes s
  | .readLine => Sys2Proof.Machine.execReadLine s
  | .takeEvent => Sys2Proof.Machine.execTakeEvent s
  | .readFeed => Sys2Proof.Machine.execReadFeed s
  | .panelKey key action => Sys2Proof.Machine.execPanelKey key action s
  | .panelTrim => Sys2Proof.Machine.execPanelTrim s
  | .panelRestart => Sys2Proof.Machine.execPanelRestart s
  | .panelFeed arg => Sys2Proof.Machine.execPanelFeed arg s
  | .setOrder mode laneLimit allowance grace capacity clear => Sys2Proof.Machine.execSetOrder mode laneLimit allowance grace capacity clear s
  | .sendDirect target action argument => Sys2Proof.Machine.execSendDirect target action argument s
  | .unknownCommand code => Sys2Proof.Machine.execUnknownCommand code s
  | .transactionAbandoned => Sys2Proof.Machine.execTransactionAbandoned s
  | .eventRecordRemoval => Sys2Proof.Machine.execEventRecordRemoval s
  | .feedRecordRemoval => Sys2Proof.Machine.execFeedRecordRemoval s
  | .feedOverflowClear => Sys2Proof.Machine.execFeedOverflowClear s
  | .restartCompletion => Sys2Proof.Machine.execRestartCompletion s
  | .directAction47Arrival h target action argument => Sys2Proof.Machine.execDirectAction47Arrival h target action argument s

end Sys2Proof.Machine
end

