-- ==== Sys2Proof/Machine/PanelPins.lean ====
section
/-! DEFINITION. What comes at the pins while no command waits (log entry 3): bit times of the floor line, and the edges of
PSEL and PCLK, by which the panel port takes a command bit by bit, executes it, and clocks its response out (R179, R180,
R183, R186, R187). -/

namespace Sys2Proof.Machine

open Sys2Proof

/-- R179: the whole bytes in a list of bits, most significant bit first; the bits of a byte that is not whole are dropped. -/
def bytesOf : List Bool → List Byte
  | a :: b :: c :: d :: e :: f :: g :: h :: rest => BitVec.ofNat 8 (natOfBits [a, b, c, d, e, f, g, h]) :: bytesOf rest
  | _ => []

/-- R180: the argument bytes of each command; an unknown command takes none. -/
def argumentBytes (code : Byte) : Nat :=
  if code = 0x10 then 2 else if code = 0x13 then 1 else if code = 0x20 then 6 else if code = 0x21 then 5 else 0

/-- R179: the bits hold a command byte and all its argument bytes. -/
def commandWhole (bits : List Bool) : Bool :=
  match bytesOf bits with
  | [] => false
  | code :: args => decide (argumentBytes code ≤ args.length)

/-- R179: PDI is sampled before the execution: the bit joins the command shift state, and the bit that ends the last argument
byte (of a command without arguments, the command byte) executes the command. -/
def shiftIn (bits : List Bool) (pdi : Bool) (s : State) : Host.Outcome State Fault Refusal :=
  let bits' := bits ++ [pdi]
  if commandWhole bits' then
    match panelCommand (bytesOf bits') with
    | some c => exec c s
    | none => .next s
  else .next { s with pp := { s.pp with shift := some bits' } }

/-- R183, R186, R187: what the last byte of a record does once it has been clocked out with PSEL low. -/
def recordOut (last : LastByte) (s : State) : Host.Outcome State Fault Refusal :=
  match last with
  | .nothing => .next s
  | .clearOverflow => exec .feedOverflowClear s
  | .removeEvent => exec .eventRecordRemoval s
  | .removeFeed => exec .feedRecordRemoval s

/-- R179: the controller samples PDO after the execution: one more bit of the status and the response has been clocked out.
What is clocked after them changes nothing. -/
def shiftOut (t : Transaction) (s : State) : Host.Outcome State Fault Refusal :=
  if t.clocked < t.length then
    let s1 := { s with pp := { s.pp with transaction := some { t with clocked := t.clocked + 1 } } }
    if t.clocked + 1 = t.length then recordOut t.lastByte s1 else .next s1
  else .next s

/-- R179: a rising edge of PCLK. Outside a transaction it does nothing. -/
def pclkRise (pdi : Bool) (s : State) : Host.Outcome State Fault Refusal :=
  match s.pp.shift, s.pp.transaction with
  | some bits, _ => shiftIn bits pdi s
  | none, some t => shiftOut t s
  | none, none => .next s

/-- R1, R179: one event at the pins. While RST_N is low the line is not read and PSEL and PCLK are ignored; the level of PSEL
is the world's. An edge to the level that PSEL has is no edge. -/
def pinEvent (e : PinEvent) (s : State) : Host.Outcome State Fault Refusal :=
  match e with
  | .lineBit others => .next (lineBit others s)
  | .pselFall =>
    if s.resetLow then .next { s with pp := { s.pp with psel := true } }
    else if s.pp.psel then .next s
    else .next (pselFall s)
  | .pselRise =>
    if s.resetLow then .next { s with pp := { s.pp with psel := false } }
    else if s.pp.psel then .next (deselect s)
    else .next s
  | .pclkRise pdi => if s.resetLow ∨ ¬ s.pp.psel then .next s else pclkRise pdi s
  | .pclkFall => if s.resetLow ∨ ¬ s.pp.psel then .next s else .next (pclkFall s)

/-- A step on an empty queue of commands: the first event that comes at the pins, or a bit time in which no other station
drives. -/
def pinStep (s : State) : Host.Outcome State Fault Refusal :=
  pinEvent (s.pins.headD (.lineBit true)) { s with pins := s.pins.tail }

end Sys2Proof.Machine
end

