-- ==== Sys2Proof/Machine/Step.lean ====
section
/-! DEFINITION. One step: the command at the front of the queue, or, when none waits, what comes at the pins. -/

namespace Sys2Proof.Machine

open Sys2Proof

/-- A step takes the command at the front of the queue; on an empty queue it is one bit time of the line or one edge of the
panel port (R1, R179, log entry 3). -/
def step (s : State) : Host.Outcome State Fault Refusal :=
  match s.pending with
  | [] => pinStep s
  | c :: rest => exec c { s with pending := rest }

/-- The command that a word spells, put at the front of the queue; the state unchanged where the word spells none (log
entry 4). -/
def State.withFetchWord (s : State) (nbits w : Nat) : State :=
  match decodeTableWord nbits w with
  | some c => { s with pending := c :: s.pending }
  | none => s

end Sys2Proof.Machine
end

