-- ==== Sys2Proof/Safety.lean ====
section
/-! DEFINITION. The terms claims use: when a command meets the station between steps, what a command gives, what one posted
event leaves, the frame an arrival command carries, and the laws the spec states of every state of the station. -/

namespace Sys2Proof.Machine

open Sys2Proof

/-! ## What a command gives -/

/-- RST_N is high and every event posted so far has been taken by the queue: the station between two steps. -/
def State.Ready (s : State) : Prop := s.resetLow = false ∧ s.outbox = []

/-- The command c at state s answers a next state, of which P holds. -/
def Gives (c : Instr) (s : State) (P : State → Prop) : Prop := ∃ t, exec c s = .next t ∧ P t

/-- R185: the state after one event has been posted at an instant. -/
def State.posting (s : State) (e : Event) : State :=
  { s with
    pp := { s.pp with events := enqueueEvent s.viewTicks s.pp.reading s.pp.events e }
    freeCount := s.freeCount + 1 }

/-- R179: the state after a transaction has executed its command. -/
def State.answering (s : State) (command status : Byte) (response : List Byte) (last : LastByte) : State :=
  { s with pp := { s.pp with
      psel := true
      shift := none
      pdoBit := false
      reading := false
      transaction := some { command := command, status := status, response := response, lastByte := last, clocked := 0 } } }

/-- R50, R73, R94, R105, R133, R146, R160, R161, R189: the state after the completion of a restart: the floor state at its reset
values, RESTARTED the only event (also of those posted at that instant, log entry 29), and LI, the straps, the threshold, the
trim, the keys, the feed and the panel transaction kept. -/
def State.restarted (s : State) : State :=
  { s with
    sq := { order := none, nextOrder := none, direct := [], floor := none, floorHeld := none, askref := none,
            askrefHeld := false, hold := none, holdHeld := false, inFlight := none, repeatCount := 0 }
    lanes := #v[.free, .free, .free, .free, .free, .free, .free, .free]
    mutes := []
    viewTicks := 0
    window := []
    mark := 0
    ownAsk := .none
    order := profileOrder s.profile
    seat := .settling 0
    flags := { cancelLatch := none, restartPending := false, pendingPress := false, cough := false,
               clash := s.flags.clash, priorityHeld := false }
    st := { speaking := false, phase := .idle, remaining := 0, speechGrace := 0, correction := 0, elapsed := 0,
            waitMeter := 0, lastWait := 0, lastSpeech := 0 }
    vu := { s.vu with envelope := 0, attack := 0, release := 0, voiced := false }
    gc := { laneSel := 0, gateDelay := .stopped, spkMute := false, duckTail := .stopped }
    flash := .stopped
    pp := { s.pp with events := [{ event := .restarted, stamp := 0 }], reading := false }
    freeCount := s.freeCount + 1 }

/-- R113: a WAITING seat, whose Own Ask is LIVE with a ticket, after an evaluation on the floor as the state holds it: in OPEN it
takes F[r] from the line when r < min(f, n), and otherwise it waits on. `floor` is what the FLOOR slot held before. -/
def State.Evaluated (t : State) (ticket : Nat) (floor : Option (Slotted FloorFrame)) : Prop :=
  match t.freeLanes[t.rankOf ticket]? with
  | some lane =>
    if t.order.mode = .openFloor ∧ t.rankOf ticket < t.room then
      t.seat = .taking { kind := .line, lane := lane, key := ticket, displace := false, muting := false,
                         mode := .openFloor, grantor := 0 } ∧
      t.sq.floor = some { content := .take, count := 0 } ∧ t.vu.trim = none
    else t.seat = .waiting ∧ t.sq.floor = floor
  | none => t.seat = .waiting ∧ t.sq.floor = floor

/-- R62, R92: between two states the holder of some lane, or the (ticket, address) pairs of the line window, have changed. -/
def State.Moved (s t : State) : Prop :=
  (∃ i : Fin 8, t.lanes[i].holder? ≠ s.lanes[i].holder?) ∨
    t.window.map (fun e => (e.ticket, e.asker)) ≠ s.window.map (fun e => (e.ticket, e.asker))

/-- R113: a WAITING seat of s, whose Own Ask is LIVE, after an arrival that left t: it has evaluated when the view or the line has
changed, and waits on otherwise. -/
def State.EvaluatesAt (s t : State) : Prop :=
  ∀ ticket, s.ownAsk = .live ticket → s.seat = .waiting →
    (s.Moved t → t.Evaluated ticket s.sq.floor) ∧ (¬ s.Moved t → t.seat = .waiting ∧ t.sq = s.sq)

/-- R62: what LANE_CHANGED reports of a lane: its state, its holder and its warned flag. -/
def Lane.shows : Lane → Option (Nat × Bool)
  | .free => none
  | .held r => some (r.holder, r.warned)

/-- What an arrival or a tick that takes s to t posts for the floor and the line: LANE_CHANGED for each lane whose state, holder
or warned flag has changed (R62), MUTE_CHANGED when the mute source list has become empty or non-empty (R69), LINE_CHANGED when
the pairs of the window have changed (R92), and TRIM_ABORTED(TAKING) when a seat that entered TAKING ended a trim (R156). -/
def State.floorEvents (s t : State) : List Event :=
  (laneNumbers.filter fun i => decide (t.lanes[i].shows ≠ s.lanes[i].shows)).map Event.laneChanged ++
  (if t.mutes.isEmpty = s.mutes.isEmpty then [] else [.muteChanged (!t.mutes.isEmpty)]) ++
  (if t.window.map (fun e => (e.ticket, e.asker)) = s.window.map (fun e => (e.ticket, e.asker)) then []
   else [.lineChanged]) ++
  (if s.vu.trim.isSome = true ∧ t.vu.trim.isNone = true then [.trimAborted .taking] else [])

/-- R185: what the instant that takes s to t posts is these events, which the queue has taken one by one in some order, stamped
with the view tick counter. -/
def State.Posts (s t : State) (posted : List Event) : Prop :=
  ∃ order : List Event, order.Perm posted ∧
    t.pp.events = order.foldl (enqueueEvent t.viewTicks s.pp.reading) s.pp.events

/-- R35, R187: between s and t one accepted frame has been offered to the feed, as read and with its own flag: stored while the
feed is on and holds fewer than 16 records, and otherwise lost, with the overflow flag set when the feed is on. -/
def State.Fed (s t : State) (own : Bool) (f : Frame) : Prop :=
  t.pp.feed = (if s.pp.feedOn = true ∧ s.pp.feed.length < 16 then s.pp.feed ++ [{ frame := f, own := own }]
               else s.pp.feed) ∧
  t.pp.overflow = (s.pp.overflow || (s.pp.feedOn && decide (16 ≤ s.pp.feed.length))) ∧
  t.pp.overflowSince = (s.pp.overflowSince || (s.pp.feedOn && decide (16 ≤ s.pp.feed.length))) ∧
  t.pp.feedOn = s.pp.feedOn

/-- One byte of a record, by its place. -/
def octet (r : List Byte) (i : Nat) : Nat := (r.getD i 0).toNat

/-- R179: a two-byte field of a record, most significant byte first, by the place of its first byte. -/
def word (r : List Byte) (i : Nat) : Nat := octet r i * 256 + octet r (i + 1)

/-- R182: a signed value as its two-byte field reads. -/
def signedWord (x : Int) : Nat := (x % 65536).toNat

/-- R179: rising edges of PCLK, one for each bit of PDI. -/
def clockIn (bits : List Bool) (s : State) : Host.Outcome State Fault Refusal :=
  bits.foldl (fun o b => match o with
    | .next u => pclkRise b u
    | o => o) (.next s)

/-- R3, R14: LI after the slot of a frame that reads recessive. -/
def LineIf.afterSlot (l : LineIf) : LineIf :=
  { l with status := .idle, idleCount := 0, dominantRun := 0, rx := [], tx := [], bitFault := false, objecting := false }

/-- The frame an arrival command carries; none for the other commands. -/
def arrivalOf : Instr → Option Frame
  | .orderArrival h source sequence mode l a g c clear =>
    some { head := h, body := .order source sequence mode l a g c clear }
  | .directCutArrival h target argument => some { head := h, body := .direct target 0 argument }
  | .directGrantArrival h target argument => some { head := h, body := .direct target 1 argument }
  | .directExtendArrival h target argument => some { head := h, body := .direct target 2 argument }
  | .directDropAskArrival h target argument => some { head := h, body := .direct target 3 argument }
  | .directAction47Arrival h target action argument => some { head := h, body := .direct target action argument }
  | .yieldArrival h lane reason => some { head := h, body := .yield lane reason }
  | .takeArrival h lane displace muting => some { head := h, body := .take lane displace muting }
  | .withdrawArrival h reason => some { head := h, body := .withdraw reason }
  | .askArrival h refresh => some { head := h, body := .ask refresh }
  | .holdArrival h elapsed muting warned => some { head := h, body := .hold elapsed muting warned }
  | .pinResetAssert | .pinResetRelease .. | .startBoundary | .frameDiscard _ | .objectionBurstEnd | .attemptLost
  | .attemptCompleted | .attemptObjected | .lineStuck | .lineClear | .viewTick | .laneLapse _ | .muteSourceLapse _
  | .lineEntryLapse _ | .settlingEnd | .orderRepeat | .speechTick | .speechExpiry | .levelSample _ | .attackCompletion
  | .releaseCompletion | .trimCompletion | .gateDelayExpiry | .duckTailExpiry | .keyLevelChange .. | .debounceExpiry _
  | .refusalFlashEnd | .readStatus | .readLanes | .readLine | .takeEvent | .readFeed | .panelKey .. | .panelTrim
  | .panelRestart | .panelFeed _ | .setOrder .. | .sendDirect .. | .unknownCommand _ | .transactionAbandoned
  | .eventRecordRemoval | .feedRecordRemoval | .feedOverflowClear | .restartCompletion => none

/-- An accepted frame of another station, with a sender and a standing that pass R25, reaches a station that takes part in it
and is not in the wait of a restart. -/
def State.Hears (s : State) (h : Header) : Prop :=
  s.Ready ∧ s.receives = true ∧ s.flags.restartPending = false ∧ h.sender.toNat ≠ s.addr ∧ 1 ≤ h.sender.toNat ∧
    h.sender.toNat ≤ 1000 ∧ h.standing ≠ .listener

/-- R37, R40: something is held behind the frame in flight for its slot. -/
def SendQ.heldFor (q : SendQ) : SlotId → Bool
  | .order => q.nextOrder.isSome
  | .direct => false
  | .floor => q.floorHeld.isSome
  | .askref => q.askrefHeld
  | .hold => q.holdHeld

/-- R36: a slot holds a frame. -/
def SendQ.holds (q : SendQ) : SlotId → Bool
  | .order => q.order.isSome
  | .direct => !q.direct.isEmpty
  | .floor => q.floor.isSome
  | .askref => q.askref.isSome
  | .hold => q.hold.isSome

/-- R36: the queue with the count of the frame in a slot (the head, in the DIRECT FIFO) raised by 1. -/
def SendQ.counted (q : SendQ) : SlotId → SendQ
  | .order => { q with order := q.order.map fun x => { x with count := x.count + 1 } }
  | .direct =>
    match q.direct with
    | [] => q
    | d :: rest => { q with direct := { d with count := d.count + 1 } :: rest }
  | .floor => { q with floor := q.floor.map fun x => { x with count := x.count + 1 } }
  | .askref => { q with askref := q.askref.map fun n => n + 1 }
  | .hold => { q with hold := q.hold.map fun n => n + 1 }

/-- R41, R42: the queue without the frame in a slot (the head, in the DIRECT FIFO). -/
def SendQ.removed (q : SendQ) : SlotId → SendQ
  | .order => { q with order := none }
  | .direct => { q with direct := q.direct.tail }
  | .floor => { q with floor := none }
  | .askref => { q with askref := none }
  | .hold => { q with hold := none }

/-- R36: every slot and the next-order place are empty. -/
def SendQ.Idle (q : SendQ) : Prop :=
  q.order = none ∧ q.direct = [] ∧ q.floor = none ∧ q.askref = none ∧ q.hold = none

/-! ## The laws of a station -/

/-- R59: a lane record is HELD by an address lower than a, so that a is the higher claimant. -/
def Lane.heldBelow (a : Nat) : Lane → Bool
  | .free => false
  | .held r => decide (r.holder < a)

/-- R52: no address is holder of more than one lane. -/
def State.ViewLaw (s : State) : Prop :=
  ∀ i j : Fin 8, ∀ a : Nat, s.lanes[i].holder? = some a → s.lanes[j].holder? = some a → i = j

/-- The part of R51 that bounds a HELD record: silence 0..2 and age 0..65535. -/
def Lane.InRange : Lane → Prop
  | .free => True
  | .held r => r.silence ≤ 2 ∧ r.age ≤ 65535 ∧ r.ticket ≤ 65535 ∧ 1 ≤ r.holder ∧ r.holder ≤ 1000 ∧ r.standing ≠ .listener

/-- R51, R67: the fields of the view lie in their ranges, and the mute source list holds at most four chairs, no chair
twice, each with silence 0..2. -/
def State.ViewRanges (s : State) : Prop :=
  (∀ i : Fin 8, s.lanes[i].InRange) ∧ s.viewTicks ≤ 65535 ∧ s.mutes.length ≤ 4 ∧
    (s.mutes.map MuteSource.chair).Nodup ∧ ∀ m ∈ s.mutes, m.silence ≤ 2

/-- R75, R77: at most 32 entries, in strictly ascending (ticket, address) order, no address twice, never the own address,
every ticket 1..Mark, silence 0..2, and the Mark in 0..65535. -/
def State.WindowLaw (s : State) : Prop :=
  s.window.length ≤ 32 ∧
    s.window.Pairwise (fun e e' => pairBefore e.ticket e.asker e'.ticket e'.asker = true) ∧
    (s.window.map Entry.asker).Nodup ∧
    (∀ e ∈ s.window, e.asker ≠ s.addr ∧ 1 ≤ e.ticket ∧ e.ticket ≤ s.mark ∧ e.silence ≤ 2) ∧ s.mark ≤ 65535

/-- R95: the ranges of the order record, and source 0 exactly while the origin is PROFILE. -/
def OrderRec.InRange (r : OrderRec) : Prop :=
  (1 ≤ r.laneLimit ∧ r.laneLimit ≤ 8) ∧ r.allowance ≤ 255 ∧ r.grace ≤ 60 ∧ (1 ≤ r.capacity ∧ r.capacity ≤ 32) ∧
    r.source ≤ 1000 ∧ (r.source = 0 ↔ r.origin = .profile)

/-- R135: the ranges of the timer record. Remaining and speech grace are 0 in IDLE. -/
def SpeechTimer.InRange (st : SpeechTimer) : Prop :=
  st.remaining ≤ 4095 ∧ (-4095 ≤ st.correction ∧ st.correction ≤ 4095) ∧ st.speechGrace ≤ 60 ∧ st.elapsed ≤ 65535 ∧
    st.waitMeter ≤ 65535 ∧ st.lastWait ≤ 65535 ∧ st.lastSpeech ≤ 65535 ∧
    (st.phase = .idle → st.remaining = 0 ∧ st.speechGrace = 0)

/-- R107: SETTLING ends at its fourth view tick, so it has counted three at most. -/
def State.SettlingLaw (s : State) : Prop := ∀ n, s.seat = .settling n → n ≤ 3

/-- R136, R163: a chair's speech is untimed. -/
def State.ChairLaw (s : State) : Prop := s.role = .chair → s.st.phase = .idle

/-- R147: the ranges of the Voice Unit's record: of the two counters at most one stands above 0, and a running trim has
summed fewer than 2048 levels of at most 255. -/
def State.VoiceLaw (s : State) : Prop :=
  s.vu.envelope ≤ 65280 ∧ (1 ≤ s.vu.threshold ∧ s.vu.threshold ≤ 255) ∧ s.vu.attack ≤ 40 ∧
    s.vu.release ≤ s.prof.releaseHold ∧ (s.vu.attack = 0 ∨ s.vu.release = 0) ∧
    ∀ t, s.vu.trim = some t → t.count ≤ 2047 ∧ t.sum ≤ t.count * 255

/-- R179, R186: a transaction is in progress only while PSEL is low, and is before its execution or after it; no more than its
status and response have been clocked out; and an event entry is being read only until its record has been. -/
def PanelPort.TransactionLaw (p : PanelPort) : Prop :=
  (p.psel = false → p.shift = none ∧ p.transaction = none) ∧ (p.shift = none ∨ p.transaction = none) ∧
    (∀ t, p.transaction = some t → t.clocked ≤ t.length) ∧
    (p.reading = true → p.events ≠ [] ∧ ∃ t, p.transaction = some t ∧ t.lastByte = .removeEvent)

/-- R185, R187: at most 16 events, OVERRUN only as the last; at most 16 feed records; while RST_N is high the law of the
transaction; and, between steps, no event waits to be taken. -/
def State.PanelLaw (s : State) : Prop :=
  s.pp.events.length ≤ 16 ∧ (∀ r ∈ s.pp.events.dropLast, r.event ≠ .overrun) ∧ s.pp.feed.length ≤ 16 ∧
    (s.resetLow = false → s.pp.TransactionLaw) ∧ s.outbox = []

/-- R36, R37, R42: at most four DIRECT frames, every attempt count 0..3, and the repeat count 0..3. -/
def SendQ.InRange (q : SendQ) : Prop :=
  q.direct.length ≤ 4 ∧ (∀ d ∈ q.direct, d.count ≤ 3) ∧ (∀ o, q.order = some o → o.count ≤ 3) ∧
    (∀ f, q.floor = some f → f.count ≤ 3) ∧ (∀ n, q.askref = some n → n ≤ 3) ∧ (∀ n, q.hold = some n → n ≤ 3) ∧
    q.repeatCount ≤ 3

/-- R3, R13, R18: the counts of the Line Interface. -/
def LineIf.InRange (l : LineIf) : Prop := l.idleCount ≤ 10 ∧ l.dominantRun ≤ 64 ∧ l.burstLeft ≤ 7

end Sys2Proof.Machine
end

