-- ==== Sys2Proof/Certificates/Slice0/Obligations.lean ====
section
/-! DEFINITION. The statements for the provers, each with the rules of the spec it rests on. `Gives c s P` says that the
command c at s answers a next state of which P holds; an equation `t = { s with … }` says that every field not named is as
it was in s. -/

open Sys2Proof Sys2Proof.Machine

/-! ## The machine as a whole -/

/-- A step of a state with a command at the front of its queue is that command on the state with the queue's rest. -/
def Obligations.StepRunsTheFrontCommand : Prop :=
  ∀ (c : Instr) (rest : List Instr) (s : State), s.pending = c :: rest → step s = exec c { s with pending := rest }

/-- The model's own form: every command answers a next state at every state (also where its event cannot come, log entry 7; no
command has an effect that stops the part), and none touches the commands that wait (log entry 4) or what will come at the pins
(log entry 3). -/
def Obligations.EveryCommandCompletesAndKeepsTheQueue : Prop :=
  ∀ (c : Instr) (s : State), Gives c s fun t => t.pending = s.pending ∧ t.pins = s.pins

/-- PIN_RESET_ASSERT (R20, R161, R178, R179, R188): LANE_SEL goes to 0 and SPK_MUTE is released, nothing else is stored; and
while RST_N is low every output is released, PDO among them, and nothing acts but the release and the levels of the key pins
(log entry 19). -/
def Obligations.ResetAssertSilencesTheStation : Prop :=
  ∀ (c : Instr) (s : State),
    (s.resetLow = false →
      Gives .pinResetAssert s fun t =>
        t = { s with resetLow := true, gc := { s.gc with laneSel := 0, spkMute := false } }) ∧
    (s.resetLow = true →
      s.flTx = true ∧ s.gateOpen = false ∧ s.attn = false ∧ s.ring = .off ∧ s.req = .off ∧ s.pdo = none ∧
      match c with
      | .pinResetRelease _ _ _ => True
      | .keyLevelChange k b => exec c s = .next (setKey k { s.keyOf k with pin := b } s)
      | _ => exec c s = .next s)

/-- PIN_RESET_RELEASE (R174, with the reset values of R20, R50, R73, R94, R105, R134, R146, R160, R161 and R189). -/
def Obligations.ResetReleaseLatchesStrapsAndResets : Prop :=
  ∀ (a : AddrBits) (r : Role) (p : BitVec 2) (s : State), s.resetLow = true →
    Gives (.pinResetRelease a r p) s fun t =>
      t.resetLow = false ∧ t.addr = a.toNat ∧ t.role = r ∧ t.profile = p ∧
      t.seat = (if r = .listener ∨ a.toNat = 0 ∨ 1000 < a.toNat then .listen else .settling 0) ∧
      (t.li.status = .idle ∧ t.li.idleCount = 0 ∧ t.li.dominantRun = 0 ∧ t.li.rx = [] ∧ t.li.tx = [] ∧
        t.li.burstLeft = 0) ∧
      t.sq = { order := none, nextOrder := none, direct := [], floor := none, floorHeld := none, askref := none,
               askrefHeld := false, hold := none, holdHeld := false, inFlight := none, repeatCount := 0 } ∧
      (∀ i : Fin 8, t.lanes[i] = .free) ∧ t.mutes = [] ∧ t.viewTicks = 0 ∧
      t.window = [] ∧ t.mark = 0 ∧ t.ownAsk = .none ∧
      t.order = { mode := (profileOf p).mode, laneLimit := (profileOf p).laneLimit,
                  allowance := (profileOf p).allowance, grace := (profileOf p).grace,
                  capacity := (profileOf p).capacity, sequence := 0, source := 0, origin := .profile } ∧
      t.flags = { cancelLatch := none, restartPending := false, pendingPress := false, cough := false, clash := false,
                  priorityHeld := false } ∧
      t.st = { speaking := false, phase := .idle, remaining := 0, speechGrace := 0, correction := 0, elapsed := 0,
               waitMeter := 0, lastWait := 0, lastSpeech := 0 } ∧
      t.vu = { envelope := 0, threshold := (profileOf p).threshold, attack := 0, release := 0, voiced := false,
               trim := none } ∧
      t.gc = { laneSel := 0, gateDelay := .stopped, spkMute := false, duckTail := .stopped } ∧
      (∀ k : KeyId, t.keyOf k =
        { pin := (s.keyOf k).pin, pressed := false,
          timer := if (s.keyOf k).pin then .running (profileOf p).debounce else .stopped }) ∧
      t.flash = .stopped ∧
      (t.pp.events = [] ∧ t.pp.feed = [] ∧ t.pp.overflow = false ∧ t.pp.overflowSince = false ∧
        t.pp.transaction = none ∧ t.pp.shift = none ∧ t.pp.psel = s.pp.psel ∧ t.pp.feedOn = decide (r = .listener))

/-- The laws below hold of the station right after reset. -/
def Obligations.ResetStateMeetsEveryLaw : Prop :=
  State.reset.ViewLaw ∧ State.reset.ViewRanges ∧ State.reset.WindowLaw ∧ State.reset.order.InRange ∧
    State.reset.st.InRange ∧ State.reset.ChairLaw ∧ State.reset.SettlingLaw ∧ State.reset.VoiceLaw ∧
    State.reset.PanelLaw ∧ State.reset.sq.InRange ∧ State.reset.li.InRange ∧ State.reset.restartDone = false

/-! ## Invariants -/

/-- R52, with the ranges of R51, R63 and R67: no step gives an address a second lane. -/
def Obligations.EveryStepKeepsTheViewLaw : Prop :=
  ∀ (s t : State), s.ViewLaw → s.ViewRanges → step s = .next t → t.ViewLaw ∧ t.ViewRanges

/-- R75, R77: the line window stays ascending, without a second entry of an asker, without the own address, within 32
entries and below the Ticket Mark. -/
def Obligations.EveryStepKeepsTheWindowLaw : Prop :=
  ∀ (s t : State), s.WindowLaw → step s = .next t → t.WindowLaw

/-- R95, R107, R135, R136, R147, R149, R151: the order record, the timer record and the Voice Unit's record stay in their ranges,
a chair's speech stays untimed, and SETTLING counts three view ticks at most. -/
def Obligations.EveryStepKeepsTheRecordRanges : Prop :=
  ∀ (s t : State), s.order.InRange → s.st.InRange → s.ChairLaw → s.VoiceLaw → step s = .next t →
    t.order.InRange ∧ t.st.InRange ∧ t.ChairLaw ∧ t.VoiceLaw ∧ (s.SettlingLaw → t.SettlingLaw)

/-- R3, R13, R18, R36, R37, R42, R179, R185 to R187: the queues and counts of the Line Interface, the Send Queue and the Panel
Port stay bounded, and an event entry is being read only while its transaction is in progress. -/
def Obligations.EveryStepKeepsTheQueuesBounded : Prop :=
  ∀ (s t : State), s.PanelLaw → s.sq.InRange → s.li.InRange → step s = .next t →
    t.PanelLaw ∧ t.sq.InRange ∧ t.li.InRange

/-- R132: a restart completes at the first instant at which its conditions hold, so no step leaves them standing. -/
def Obligations.NoStepLeavesARestartDone : Prop :=
  ∀ (s t : State), s.restartDone = false → step s = .next t → t.restartDone = false

/-! ## Frames and commands as bits -/

/-- R11, R12, R21: the bits of any frame, class through CRC, are read back as that frame. -/
def Obligations.FrameContentReadsBack : Prop := ∀ (f : Frame), parseFrame f.content = some f

/-- R3, R5 to R9, R11, R12, R42: a station on a free line that reads a frame as its sender drives it, stuff bits included, stands
in the slot with the frame's bits, no fault, no objection and the idle count at 0, and has changed nothing but its Line
Interface; so does the sender itself, from its lead on, whose CRC register stands at the CRC it sent (that its buffer holds the
frame's bits and its idle count is 0 is read from the rules by inference, log entry 32). Bit by bit, a sender on a line that has
not been dominant for long drives its next bit: read as sent, it goes on to the rest; a recessive field bit read dominant loses
the arbitration, the frame stays pending, and LI receives on with the bit in its buffer; any other bit read otherwise is a bit
fault, after which the sender drives nothing, follows its frame to the end and objects in the slot. -/
def Obligations.FrameOnTheLineIsReceivedWhole : Prop :=
  ∀ (f : Frame) (v : Bool) (b : TxBit) (rest : List TxBit) (s : State),
    (∀ t, s.li.status = .idle → s.li.idleCount = 10 → s.li.burstLeft = 0 → s.li.dominantRun = 0 →
      t = (f.image.map TxBit.value).foldl (fun u v => readBit v u) s →
      t = { s with li := t.li } ∧ t.li.status = .slot ∧ t.li.rx = f.content ∧ t.crcFault = false ∧
        t.li.objecting = false ∧ t.li.idleCount = 0) ∧
    (∀ t, s.li.status = .lead → s.li.leadBits = 0 → s.li.runLength = 0 → s.li.rx = [] → s.li.crc = 0xFFFF →
      s.li.tx = f.image → s.li.bitFault = false → s.li.dominantRun = 0 →
      t = (f.image.map TxBit.value).foldl (fun u v => readBit v u) s →
      t = { s with li := t.li } ∧ t.li.status = .slot ∧ t.li.tx = [] ∧ t.li.bitFault = false ∧ t.li.objecting = false ∧
        t.li.rx = f.content ∧ t.li.crc = crcOf f.covered ∧ t.li.idleCount = 0) ∧
    (s.Ready → s.seat ≠ .listen → s.li.burstLeft = 0 → s.li.dominantRun < 63 → s.li.tx = b :: rest →
      s.li.status = .lead ∨ s.li.status = .arbitrating ∨ s.li.status = .sending →
      let t := readBit v s
      s.flTx = (s.li.bitFault || b.value) ∧
      (s.li.bitFault = true ∨ v = b.value →
        t = { s with li := t.li } ∧ t.li.tx = rest ∧ t.li.bitFault = s.li.bitFault ∧
        (t.li.status = .slot ↔ rest = []) ∧ (rest = [] → t.li.objecting = s.li.bitFault)) ∧
      (s.li.bitFault = false → v ≠ b.value →
        (b.part = .field → b.value = true → ∀ fl, s.sq.inFlight = some fl → s.sq.heldFor fl.slot = false →
          s.flags.cancelLatch = none → s.flags.restartPending = false → s.li.status ≠ .sending →
          t = { s with li := t.li, sq := { s.sq with inFlight := none } } ∧ t.li.status = .receiving ∧ t.li.tx = [] ∧
          t.li.rx = s.li.rx ++ [false] ∧ t.flTx = true) ∧
        (b.part ≠ .field ∨ b.value = false →
          t = { s with li := t.li } ∧ t.li.tx = rest ∧ t.li.bitFault = true ∧ (rest ≠ [] → t.flTx = true) ∧
          (rest = [] → t.li.status = .slot ∧ t.flTx = false))))

/-- R6: what a sender drives from lead through CRC holds no seven equal values in a row. -/
def Obligations.SentFramesHaveNoRunOfSeven : Prop :=
  ∀ (f : Frame) (v : Bool) (before after : List Bool),
    f.image.map TxBit.value ≠ before ++ List.replicate 7 v ++ after

/-! ## Screening -/

/-- R24 to R34: the discard tests, kind by kind; and a frame that is not discarded acts with its head as read and with each
field clamped or read as the tables give, and stands when nothing was moved. -/
def Obligations.ScreeningFollowsTheTables : Prop :=
  ∀ (f g : Frame),
    (screen f = .discarded ↔
      f.head.sender.toNat = 0 ∨ 1000 < f.head.sender.toNat ∨ f.head.standing = .listener ∨
      match f.body with
      | .order source .. =>
        f.head.standing ≠ .chair ∨ f.head.key.toNat ≠ 0 ∨ source.toNat = 0 ∨ 1000 < source.toNat
      | .direct target action _ =>
        f.head.standing ≠ .chair ∨ f.head.key.toNat ≠ 0 ∨ 1000 < target.toNat ∨ 4 ≤ action.toNat ∨
          (action.toNat = 1 ∧ target.toNat = 0)
      | .yield lane _ => f.head.key.toNat ≠ lane.toNat
      | .take .. => False
      | .withdraw _ => f.head.standing = .chair ∨ f.head.key.toNat = 0
      | .ask _ => f.head.standing = .chair ∨ f.head.key.toNat = 0
      | .hold .. => 8 ≤ f.head.key.toNat) ∧
    (actingFrame f = some g →
      g.head = f.head ∧ (screen f = .stands ↔ g = f) ∧ (screen f = .clamped g ↔ g ≠ f) ∧
      match f.body, g.body with
      | .order source sequence mode l a gr c clear, .order source' sequence' mode' l' a' gr' c' clear' =>
        source' = source ∧ sequence' = sequence ∧ mode' = mode ∧ a' = a ∧ clear' = clear ∧
          l'.toNat = max 1 (min 8 l.toNat) ∧ gr'.toNat = min 60 gr.toNat ∧ c'.toNat = max 1 (min 32 c.toNat)
      | .direct target action argument, .direct target' action' argument' =>
        target' = target ∧ action' = action ∧
          argument'.toInt = if action.toNat = 2 then max (-4095) argument.toInt else argument.toInt
      | .yield lane reason, .yield lane' reason' => lane' = lane ∧ reason' = if reason.toNat ≤ 5 then reason else 0
      | .take lane displace muting, .take lane' displace' muting' =>
        lane' = lane ∧ displace' = displace ∧ muting' = (muting && decide (f.head.standing = .chair))
      | .withdraw reason, .withdraw reason' => reason' = if reason.toNat ≤ 2 then reason else 0
      | .ask refresh, .ask refresh' => refresh' = refresh
      | .hold elapsed muting warned, .hold elapsed' muting' warned' =>
        elapsed' = elapsed ∧ muting' = (muting && decide (f.head.standing = .chair)) ∧ warned' = warned
      | _, _ => False)

/-! ## The line and the Send Queue -/

/-- START_BOUNDARY (R3, R4, R22, R38, R39, R81): after every owner has restated, a frame of the lowest arbitration field goes to
LI, which enters LEAD with its bits, and with no frame left LI stays IDLE with the line free. The content of the frame by its
slot: an ORDER from the record, the head of the DIRECT FIFO, the take intended, a new ASK with the key Mark + 1, a YIELD or
WITHDRAW as placed, a refresh with the ticket, a HOLD with the lane, the elapsed time and the flags as they stand. A new ASK at
Mark 65535, a refresh without a LIVE Own Ask and a HOLD outside LIVE and WARNED are withdrawn, the first with
ASK_REFUSED(SATURATED). -/
def Obligations.StartBoundaryOffersTheLowestFrame : Prop :=
  ∀ (s r : State), s.Ready → s.li.status = .idle → s.sq.inFlight = none → s.li.burstLeft = 0 →
    s.flags.restartPending = false → r = restateAll { s with li := { s.li with idleCount := 10, dominantRun := 0 } } →
    (Gives .startBoundary s fun t =>
      match t.sq.inFlight with
      | none => r.offers = [] ∧ t = flush r ∧ t.li.status = .idle ∧ t.li.idleCount = 10
      | some fl =>
        fl ∈ r.offers ∧ (∀ g ∈ r.offers, fl.frame.arbitration ≤ g.frame.arbitration) ∧
        t.li.status = .lead ∧ t.li.tx = fl.frame.image ∧ t.li.bitFault = false ∧
        t = { flush r with sq := { r.sq with inFlight := some fl }, li := t.li } ∧
        fl.frame.head.standing = s.role ∧ (s.addr ≤ 1023 → fl.frame.head.sender.toNat = s.addr) ∧
        let key : Nat := fl.frame.head.key.toNat
        match fl.slot with
        | .order => key = 0 ∧ ∃ o, s.sq.order = some o ∧ fl.frame.body = orderBody o.content s
        | .direct => key = 0 ∧ ∃ d, s.sq.direct.head? = some d ∧
            fl.frame.body = .direct d.content.target d.content.action d.content.argument
        | .floor => ∃ x, t.sq.floor = some x ∧
          match x.content with
          | .take => ∃ k, t.seat = .taking k ∧ (k.key ≤ 65535 → key = k.key) ∧
              ∃ lane, lane.toNat = k.lane.val ∧ fl.frame.body = .take lane k.displace k.muting
          | .ask => key = s.mark + 1 ∧ fl.frame.body = .ask false
          | .yield lane reason => key = lane.val ∧ ∃ n code, n.toNat = lane.val ∧ fl.frame.body = .yield n code ∧
              code.toNat = (match reason with
                | .key => 0 | .time => 1 | .voice => 2 | .conflict => 3 | .restart => 4 | .priorityEnd => 5)
          | .withdraw ticket reason => (ticket ≤ 65535 → key = ticket) ∧ ∃ code, fl.frame.body = .withdraw code ∧
              code.toNat = (match reason with | .key => 0 | .panel => 1 | .restart => 2)
        | .askref => ∃ ticket, s.ownAsk = .live ticket ∧ (ticket ≤ 65535 → key = ticket) ∧ fl.frame.body = .ask true
        | .hold => ∃ o elapsed, (s.st.elapsed ≤ 65535 → elapsed.toNat = s.st.elapsed) ∧ key = o.lane.val ∧
            (s.seat = .live o ∧ fl.frame.body = .hold elapsed o.muting false ∨
              s.seat = .warned o ∧ fl.frame.body = .hold elapsed o.muting true)) ∧
    Gives .startBoundary s fun t =>
      (∀ n, s.sq.floor = some { content := .ask, count := n } → 65535 ≤ s.mark →
        t.sq.floor = none ∧ t.seat = .idle ∧ t.ownAsk = .none ∧ t.flash = .running 2000 ∧
        t.pp.events = enqueueEvent s.viewTicks s.pp.reading s.pp.events (.askRefused .saturated)) ∧
      (∀ n, s.sq.floor = some { content := .ask, count := n } → s.mark < 65535 → t.sq.floor = s.sq.floor ∧
        t.seat = s.seat ∧ t.ownAsk = s.ownAsk) ∧
      ((∀ ticket, s.ownAsk ≠ .live ticket) → t.sq.askref = none) ∧ (s.seat.speaking? = none → t.sq.hold = none)

/-- R112, R116, R117: restating a pending TAKE of each kind: a displacement whose lane is FREE under the mode of its decision is
a plain take of that lane; any other take, a displacement whose lane is HELD or whose mode has changed among them, reruns its
decision: what it becomes, or where the seat goes when the decision no longer gives a take. That a VOICE take then ends in
IDLE with no refusal posted or signalled is inferred (log entry 10). -/
def Obligations.RestatedTakeFollowsItsDecision : Prop :=
  ∀ (k : TakeKind) (t : IntendedTake) (s : State), s.seat = .taking t → t.kind = k → s.sq.inFlight = none →
    (t.displace = true ∧ s.lanes[t.lane].isFree = true ∧ s.order.mode = t.mode →
      restateTake t s = { s with seat := .taking { t with displace := false, muting := s.takeMuting k } }) ∧
    ((t.displace = true → s.lanes[t.lane].isFree = false ∨ s.order.mode ≠ t.mode) →
      match k with
      | .line =>
        match s.selfTake? with
        | some (lane, _) =>
          restateTake t s = { s with seat := .taking { t with lane := lane, displace := false, muting := false,
                                                              mode := s.order.mode } }
        | none => restateTake t s = { s with seat := .waiting, sq := { s.sq with floor := none } }
      | .grant =>
        match s.ownAsk, s.freeLanes with
        | .live _, lane :: _ =>
          restateTake t s = { s with seat := .taking { t with lane := lane, displace := false, muting := false,
                                                              mode := s.order.mode } }
        | _, _ =>
          restateTake t s = post .sa (.grantNoLane t.grantor)
            { s with seat := .waiting, sq := { s.sq with floor := none } }
      | .key =>
        match talkDecision s with
        | .take lane displace =>
          restateTake t s = { s with seat := .taking { t with lane := lane, displace := displace,
                                                              muting := s.isChair && s.flags.priorityHeld,
                                                              mode := s.order.mode } }
        | .ask =>
          restateTake t s =
            if 65535 ≤ s.mark then
              { post .sa (.askRefused .saturated) s with
                seat := .idle, sq := { s.sq with floor := none }, flash := .running 2000 }
            else if s.order.capacity ≤ s.window.length then
              { post .sa (.askRefused .full) s with
                seat := .idle, sq := { s.sq with floor := none }, flash := .running 2000 }
            else
              { s with seat := .asking, ownAsk := .pending,
                       sq := { s.sq with floor := some { content := .ask, count := 0 } } }
        | .noLane =>
          restateTake t s = { post .sa (.askRefused .noLane) s with
            seat := .idle, sq := { s.sq with floor := none }, flash := .running 2000 }
        | .nothing =>
          restateTake t s = { s with seat := .idle, sq := { s.sq with floor := none }, flash := .running 2000 }
      | .voice =>
        match attackDecision s with
        | .take lane displace =>
          restateTake t s =
            if s.order.mode = .voice ∧ s.flags.cough = false then
              { s with seat := .taking { t with lane := lane, displace := displace, muting := false,
                                                mode := s.order.mode } }
            else { s with seat := .idle, sq := { s.sq with floor := none } }
        | _ => restateTake t s = { s with seat := .idle, sq := { s.sq with floor := none } }
      | .priority =>
        match chairDecision s with
        | .take lane displace =>
          restateTake t s = { s with seat := .taking { t with lane := lane, displace := displace, muting := true,
                                                              mode := s.order.mode } }
        | _ =>
          restateTake t s = { post .sa (.askRefused .noLane) s with
            seat := .idle, sq := { s.sq with floor := none }, flash := .running 2000 })

/-- FRAME_DISCARD and OBJECTION_BURST_END (R5, R7, R11, R13, R14): a discard empties the buffer and leaves LI idle, with a
burst of seven bits to drive after a stuff fault or a format fault outside LISTEN; the end of the burst releases the
line. That the count of R18 stands as it was after a discard, and after the end of the
burst, is the model's choice (log entry 16). -/
def Obligations.DiscardEmptiesTheBufferAndMayBurst : Prop :=
  ∀ (cause : DiscardCause) (s : State), s.Ready →
    (s.receives = true →
      Gives (.frameDiscard cause) s fun t =>
        t = { s with li := { s.li with
          status := .idle, idleCount := 0, rx := [], tx := [], bitFault := false, objecting := false,
          burstLeft := if (cause = .stuffFault ∨ cause = .formatFault) ∧ s.seat ≠ .listen then 7 else 0 } }) ∧
    Gives .objectionBurstEnd s fun t => t = { s with li := { s.li with burstLeft := 0 } }

/-- ATTEMPT_LOST and ATTEMPT_OBJECTED (R8, R16, R40, R42, R43, R120): a lost attempt counts nothing and leaves the frame in its
slot, and LI goes on as a receiver; an objected attempt that is not the fourth counts 1 against its frame, which stays. A
frame held during the flight takes the place of one that stays: a new order or FLOOR frame with count 0, a refresh or a HOLD
with the count kept. With the cancel latch set, a lost ASK or TAKE leaves its slot and the latch is cleared. That the count of
R18 stands as it was after such an attempt, and the receive buffer, the run count and the CRC register after a lost one, is the
model's choice (log entry 16). -/
def Obligations.FailedAttemptsKeepTheFrame : Prop :=
  ∀ (fl : Flight) (s : State), s.Ready → s.sq.inFlight = some fl → s.flags.restartPending = false →
    (s.flags.cancelLatch = none → (s.li.status = .lead ∨ s.li.status = .arbitrating) → s.li.bitFault = false →
      Gives .attemptLost s fun t =>
        let lost (q : SendQ) : State := { s with li := { s.li with status := .receiving, idleCount := 0, tx := [] }, sq := q }
        (fl.slot = .order → ∀ n, s.sq.nextOrder = some n →
          t = lost { s.sq with order := some { content := .new n, count := 0 }, nextOrder := none, inFlight := none }) ∧
        (fl.slot = .floor → ∀ c, s.sq.floorHeld = some c →
          t = lost { s.sq with floor := some { content := c, count := 0 }, floorHeld := none, inFlight := none }) ∧
        (fl.slot = .askref → s.sq.askrefHeld = true →
          t = lost { s.sq with askrefHeld := false, inFlight := none }) ∧
        (fl.slot = .hold → s.sq.holdHeld = true → t = lost { s.sq with holdHeld := false, inFlight := none })) ∧
    (∀ c, s.flags.cancelLatch = some c → c ≠ .restart →
      (s.li.status = .lead ∨ s.li.status = .arbitrating) → s.li.bitFault = false → fl.slot = .floor → s.sq.floorHeld = none →
      Gives .attemptLost s fun t =>
        let u : State := { s with
          li := { s.li with status := .receiving, idleCount := 0, tx := [] }
          flags := { s.flags with cancelLatch := none }
          sq := { s.sq with floor := none, inFlight := none } }
        match fl.frame.body, s.seat with
        | .ask false, .asking =>
          s.ownAsk = .pending →
            t = State.posting { u with seat := .idle, ownAsk := .none, st := { s.st with waitMeter := 0 } }
              (.askEnded .withdrawn)
        | .take _ _ _, .taking k =>
          t = { u with seat := if k.kind = .line ∨ k.kind = .grant then .waiting else .idle }
        | _, _ => True) ∧
    (s.sq.heldFor fl.slot = false → s.flags.cancelLatch = none →
      ((s.li.status = .lead ∨ s.li.status = .arbitrating) → s.li.bitFault = false →
        Gives .attemptLost s fun t =>
          t = { s with li := { s.li with status := .receiving, idleCount := 0, tx := [] }, sq := { s.sq with inFlight := none } }) ∧
      (s.sq.holds fl.slot = true → s.flightCount fl.slot < 3 →
        Gives .attemptObjected s fun t =>
          t = { s with
            li := { s.li with status := .idle, idleCount := 0, rx := [], tx := [], bitFault := false, objecting := false }
            sq := { s.sq.counted fl.slot with inFlight := none } }))

/-- R42, R112, R124: the fourth counted attempt drops the frame and posts SEND_FAILED; a dropped ORDER, DIRECT, refresh, HOLD or
WITHDRAW changes nothing else, a dropped YIELD leaves the seat IDLE, a dropped take from the line goes back to WAITING, a
dropped direct KEY take of a delegate in OPEN becomes an ask, and any other dropped take and a dropped ASK leave the seat IDLE
with ASK_REFUSED(SEND). That the count of R18 stands as it was after the attempt is the model's choice (log entry 16). -/
def Obligations.FourthObjectionDropsTheFrame : Prop :=
  ∀ (fl : Flight) (s : State), s.Ready → s.sq.inFlight = some fl → s.sq.heldFor fl.slot = false →
    s.flightCount fl.slot = 3 → s.flags.restartPending = false → s.flags.cancelLatch = none →
    Gives .attemptObjected s fun t =>
      let u : State := { s with
        li := { s.li with status := .idle, idleCount := 0, rx := [], tx := [], bitFault := false, objecting := false }
        sq := { s.sq.removed fl.slot with inFlight := none } }
      (fl.slot ≠ .floor → t = u.posting (.sendFailed fl.frame.body.cls)) ∧
      (fl.slot = .floor →
        match fl.frame.body, s.seat with
        | .withdraw _, _ => t = u.posting (.sendFailed 4)
        | .yield _ _, .yielding _ _ =>
          t.seat = .idle ∧ t.sq.floor = none ∧ t.lanes = s.lanes ∧
          t.pp.events = enqueueEvent s.viewTicks s.pp.reading s.pp.events (.sendFailed 2)
        | .take _ _ _, .taking k =>
          (k.kind = .line ∨ k.kind = .grant → t = State.posting { u with seat := .waiting } (.sendFailed 3)) ∧
          (k.kind = .key → s.role = .delegate → s.order.mode = .openFloor → k.key = 0 → s.mark < 65535 →
            s.window.length < s.order.capacity →
            t = State.posting { u with
              seat := .asking, ownAsk := .pending
              sq := { u.sq with floor := some { content := .ask, count := 0 } } } (.sendFailed 3)) ∧
          (k.kind = .voice ∨ k.kind = .priority ∨
              k.kind = .key ∧ ¬ (s.role = .delegate ∧ s.order.mode = .openFloor ∧ k.key = 0) →
            t.seat = .idle ∧ t.sq = u.sq ∧ t.flash = .running 2000 ∧
            (s.pp.events.length ≤ 14 → (∀ r ∈ s.pp.events, r.event ≠ .overrun) →
              { event := .sendFailed 3, stamp := s.viewTicks : EventRec } ∈ t.pp.events ∧
              { event := .askRefused .send, stamp := s.viewTicks : EventRec } ∈ t.pp.events))
        | .ask false, .asking =>
          t.seat = .idle ∧ t.ownAsk = .none ∧ t.sq = u.sq ∧ t.flash = .running 2000 ∧
          (s.pp.events.length ≤ 14 → (∀ r ∈ s.pp.events, r.event ≠ .overrun) →
            { event := .sendFailed 5, stamp := s.viewTicks : EventRec } ∈ t.pp.events ∧
            { event := .askRefused .send, stamp := s.viewTicks : EventRec } ∈ t.pp.events)
        | _, _ => True)

/-- ATTEMPT_COMPLETED of the seat's TAKE (R41, R54, R55, R62, R87, R120, R123, R128, R136, R145, R152, R157, R159, R163): the
seat is LIVE on the lane, the lane is its own in its own view, the speech and the gate delay have started, and the timer holds
the order's allowance and grace. LIVE is posted with the lane, beside the changes of the view and the line and the end of a LIVE
ask. A chair's muting flag follows its PRIORITY key, and a change places a HOLD. A VOICE take whose talker has already been
silent for the release hold yields the lane with VOICE at that entry. With the cancel latch set the seat passes to YIELDING
instead: no speech starts, LIVE is not posted, and a YIELD of the lane is placed. In each case a LIVE Own Ask has ended TAKEN,
and last wait takes the wait meter. -/
def Obligations.CompletedTakeStartsTheSpeech : Prop :=
  ∀ (k : IntendedTake) (h : Header) (m : Bool) (s : State), s.Ready → s.seat = .taking k →
    s.flags.restartPending = false → s.li.bitFault = false →
    s.role ≠ .listener →
    h.sender.toNat = s.addr → 1 ≤ s.addr → s.addr ≤ 1000 → h.standing = s.role → s.sq.floorHeld = none →
    s.sq.inFlight = some
      { slot := .floor,
        frame := { head := h, body := .take (BitVec.ofNat 3 k.lane.val) k.displace (s.isChair && m) } } →
    Gives .attemptCompleted s fun t =>
      (∀ i : Fin 8, t.lanes[i] =
        if i = k.lane then
          .held { holder := s.addr, standing := s.role, ticket := h.key.toNat, age := 0, silence := 0,
                  muting := s.isChair && m, warned := false }
        else if s.lanes[i].holder? = some s.addr then .free else s.lanes[i]) ∧
      t.mutes = (if s.isChair then (if m then muteJoin s.addr s.mutes else muteLeave s.addr s.mutes) else s.mutes) ∧
      t.gateOpen = false ∧ t.mark = max s.mark h.key.toNat ∧
      t.ownAsk = (match s.ownAsk with | .live _ => .none | o => o) ∧
      t.st.lastWait = (match s.ownAsk with | .live _ => s.st.waitMeter | _ => s.st.lastWait) ∧
      t.st.waitMeter = (match s.ownAsk with | .live _ => 0 | _ => s.st.waitMeter) ∧
      t.order = s.order ∧ t.vu = s.vu ∧ t.viewTicks = s.viewTicks ∧
      (∀ latch, s.flags.cancelLatch = latch → latch ≠ some .restart →
        s.Posts t (s.floorEvents t ++ (match s.ownAsk with | .live _ => [.askEnded .taken] | _ => []) ++
          (if latch = none then [.live k.lane] else []))) ∧
      (s.flags.cancelLatch = none → k.kind = .voice → s.prof.releaseHold ≤ s.vu.release →
        t.seat = .yielding { lane := k.lane, tookBy := .voice, muting := s.isChair && s.flags.priorityHeld } .voice ∧
        t.sq.floor = some { content := .yield k.lane .voice, count := 0 } ∧ t.sq.inFlight = none ∧
        t.st.speaking = false ∧ t.st.lastSpeech = 0 ∧ t.flags = s.flags ∧
        t.gc = { laneSel := k.lane, gateDelay := .stopped, spkMute := true, duckTail := .stopped }) ∧
      (s.flags.cancelLatch = none → (k.kind = .voice → s.vu.release < s.prof.releaseHold) →
        t.seat = .live { lane := k.lane, tookBy := k.kind, muting := s.isChair && s.flags.priorityHeld } ∧
        t.sq = { s.sq with
          floor := none
          inFlight := none
          hold := if s.isChair = true ∧ m ≠ s.flags.priorityHeld then some (s.sq.hold.getD 0) else s.sq.hold } ∧
        (t.st.speaking = true ∧ t.st.elapsed = 0 ∧ t.st.correction = 0 ∧
          t.st.remaining = (if s.isChair then 0 else s.order.allowance * 10) ∧
          t.st.speechGrace = (if s.isChair = true ∨ s.order.allowance = 0 then 0 else s.order.grace) ∧
          t.st.phase = (if s.isChair = true ∨ s.order.allowance = 0 then .idle
                        else if s.mutes.isEmpty then .counting .running else .paused .running)) ∧
        t.gc = { laneSel := k.lane, gateDelay := .running s.prof.gateDelay, spkMute := true, duckTail := .stopped } ∧
        t.flags = s.flags) ∧
      (∀ c, s.flags.cancelLatch = some c → c ≠ .restart →
        t.seat = .yielding { lane := k.lane, tookBy := k.kind, muting := s.isChair && m } .key ∧
        t.sq = { s.sq with floor := some { content := .yield k.lane .key, count := 0 }, inFlight := none } ∧
        t.flags = { s.flags with cancelLatch := none } ∧ t.gc = { s.gc with gateDelay := .stopped } ∧
        (s.st.speaking = false → t.st.speaking = false ∧ t.st.elapsed = s.st.elapsed))

/-- ATTEMPT_COMPLETED of the seat's new ASK (R41, R82, R83, R113, R120, R145, R156): the key it carried is the ticket, ASK_LIVE is
posted with it, and the seat waits, or in OPEN takes from the line at once when its rank allows it; a cancel in its flight ends
the ask WITHDRAWN and turns it into a WITHDRAW of that ticket. -/
def Obligations.CompletedAskFixesItsTicket : Prop :=
  ∀ (c : Cause) (h : Header) (s : State), s.Ready → s.seat = .asking → s.flags.restartPending = false →
    s.li.bitFault = false → s.ownAsk = .pending → h.sender.toNat = s.addr → 1 ≤ s.addr → s.addr ≤ 1000 →
    s.isDelegateSeat = true → h.standing = s.role → 1 ≤ h.key.toNat → s.sq.floorHeld = none → c ≠ .restart →
    s.sq.inFlight = some { slot := .floor, frame := { head := h, body := .ask false } } →
    Gives .attemptCompleted s fun t =>
      t.mark = max s.mark h.key.toNat ∧ t.window = s.window ∧ t.lanes = s.lanes ∧ t.order = s.order ∧
      (s.flags.cancelLatch = none → s.Posts t (.askLive h.key.toNat :: s.floorEvents t)) ∧
      (s.flags.cancelLatch = some c → s.Posts t [.askEnded .withdrawn]) ∧
      (s.flags.cancelLatch = none → s.order.mode ≠ .openFloor →
        t.seat = .waiting ∧ t.ownAsk = .live h.key.toNat ∧ t.st = { s.st with waitMeter := 0 } ∧
        t.sq = { s.sq with floor := none, inFlight := none }) ∧
      (s.flags.cancelLatch = none → s.order.mode = .openFloor →
        t.ownAsk = .live h.key.toNat ∧ t.st = { s.st with waitMeter := 0 } ∧ t.Evaluated h.key.toNat none) ∧
      (s.flags.cancelLatch = some c →
        t.seat = .idle ∧ t.ownAsk = .none ∧ t.flags = { s.flags with cancelLatch := none } ∧
        t.sq = { s.sq with floor := some { content := .withdraw h.key.toNat c, count := 0 }, inFlight := none })

/-- LINE_STUCK and LINE_CLEAR (R18, R19, R49): a line held dominant stops every drive and leaves the pending frames; it clears
with the line free, at a start boundary: LINE_CLEAR is posted, every pending frame is restated, and the lowest goes to LI. -/
def Obligations.StuckLineHoldsThePendingFrames : Prop :=
  ∀ (s : State), s.Ready →
    (s.li.status ≠ .stuck → s.sq.inFlight = none →
      Gives .lineStuck s fun t =>
        t = State.posting
          { s with li := { s.li with status := .stuck, idleCount := 0, dominantRun := 64, burstLeft := 0, rx := [],
                                     tx := [], bitFault := false, objecting := false } } .lineStuck ∧
          t.flTx = true) ∧
    (s.li.status ≠ .stuck → ∀ fl, s.sq.inFlight = some fl → s.sq.heldFor fl.slot = false →
      s.flags.restartPending = false → s.flags.cancelLatch = none →
      Gives .lineStuck s fun t => t.li.status = .stuck ∧ t.flTx = true ∧ t.sq = { s.sq with inFlight := none }) ∧
    (s.li.status = .stuck → s.sq.Idle → s.flags.restartPending = false →
      Gives .lineClear s fun t =>
        t = State.posting { s with li := { s.li with status := .idle, idleCount := 10, dominantRun := 0 } } .lineClear) ∧
    (s.li.status = .stuck → s.sq.inFlight = none → s.flags.restartPending = false →
      Gives .lineClear s fun t =>
        let r := restateAll { s with li := { s.li with status := .idle, idleCount := 10, dominantRun := 0 } }
        t.seat = r.seat ∧ t.ownAsk = r.ownAsk ∧ t.lanes = s.lanes ∧ t.window = s.window ∧
        (s.pp.events.length ≤ 13 → (∀ x ∈ s.pp.events, x.event ≠ .overrun) →
          { event := .lineClear, stamp := s.viewTicks : EventRec } ∈ t.pp.events) ∧
        match t.sq.inFlight with
        | none => r.offers = [] ∧ t.sq = r.sq ∧ t.li = r.li
        | some fl =>
          fl ∈ r.offers ∧ (∀ g ∈ r.offers, fl.frame.arbitration ≤ g.frame.arbitration) ∧
          t.sq = { r.sq with inFlight := some fl } ∧ t.li.status = .lead ∧ t.li.tx = fl.frame.image ∧ t.li.bitFault = false)

/-! ## Arrivals -/

/-- TAKE_ARRIVAL (R53 to R55, R62, R69, R77, R87, R92, R113): the lane goes to the sender, its other lane becomes FREE, its line
entry leaves and the Mark rises. The changes of the lanes, of mute active and of the line are posted. A seat that neither waits
nor holds the lane is untouched, and a WAITING one evaluates when the view or the line has changed. -/
def Obligations.TakeArrivalGivesTheLaneToItsSender : Prop :=
  ∀ (h : Header) (lane : BitVec 3) (displace muting : Bool) (s : State), s.Hears h →
    Gives (.takeArrival h lane displace muting) s fun t =>
      (∀ i : Fin 8, t.lanes[i] =
        if i = laneOf lane then
          .held { holder := h.sender.toNat, standing := h.standing, ticket := h.key.toNat, age := 0, silence := 0,
                  muting := muting && decide (h.standing = .chair), warned := false }
        else if s.lanes[i].holder? = some h.sender.toNat then .free else s.lanes[i]) ∧
      t.window = s.window.filter (fun e => decide (e.asker ≠ h.sender.toNat)) ∧ t.mark = max s.mark h.key.toNat ∧
      t.mutes = (if h.standing = .chair then
        (if muting then muteJoin h.sender.toNat s.mutes else muteLeave h.sender.toNat s.mutes) else s.mutes) ∧
      t.ownAsk = s.ownAsk ∧ s.EvaluatesAt t ∧
      ((∀ o, s.seat.own? = some o → o.lane ≠ laneOf lane) → s.Posts t (s.floorEvents t)) ∧
      (s.seat ≠ .waiting → (∀ o, s.seat.own? = some o → o.lane ≠ laneOf lane) →
        t = { s with li := s.li.afterSlot, lanes := t.lanes, window := t.window, mark := t.mark, mutes := t.mutes,
                     st := { s.st with phase := t.st.phase }, freeCount := t.freeCount,
                     pp := { s.pp with events := t.pp.events, feed := t.pp.feed, overflow := t.pp.overflow,
                                       overflowSince := t.pp.overflowSince } })

/-- R62, R125, R144, R159: a TAKE of the own lane ends the speech and leaves the seat IDLE; the displace flag decides whether
DISPLACED or LANE_LOST is posted, beside the changes of the view and the line. In YIELDING the YIELD leaves its slot. -/
def Obligations.TakeOfTheOwnLaneEndsTheSpeech : Prop :=
  ∀ (h : Header) (lane : BitVec 3) (displace muting : Bool) (o : OwnLane) (s : State), s.Hears h →
    s.seat.own? = some o → o.lane = laneOf lane →
    Gives (.takeArrival h lane displace muting) s fun t =>
      t.seat = .idle ∧ t.gateOpen = false ∧ t.ownAsk = s.ownAsk ∧ t.order = s.order ∧ t.flags = s.flags ∧ t.vu = s.vu ∧
      t.gc.laneSel = s.gc.laneSel ∧ t.gc.spkMute = s.gc.spkMute ∧
      t.gc.duckTail = (if s.gc.spkMute = true ∧ s.gc.duckTail = .stopped then .running s.prof.duckTail
                       else s.gc.duckTail) ∧
      s.Posts t (s.floorEvents t ++ (match s.seat.speaking? with
        | some _ => [if displace then .displaced h.sender.toNat else .laneLost h.sender.toNat]
        | none => [])) ∧
      (s.seat.speaking? = some o →
        t.sq = s.sq ∧
        (s.st.speaking = true →
          t.st = { s.st with lastSpeech := s.st.elapsed, speaking := false, phase := .idle, remaining := 0,
                             speechGrace := 0, correction := 0, elapsed := 0 }) ∧
        (s.ViewLaw → s.pp.events.length ≤ 8 → (∀ r ∈ s.pp.events, r.event ≠ .overrun) →
          { event := if displace then .displaced h.sender.toNat else .laneLost h.sender.toNat,
            stamp := s.viewTicks : EventRec } ∈ t.pp.events)) ∧
      (s.seat.speaking? = none → t.sq = { s.sq with floor := none })

/-- YIELD_ARRIVAL (R30, R56, R62, R69, R113): the lane becomes FREE when its sender holds it; a chair leaves the mute source list;
the changes of the lane and of mute active are posted; and a lane that becomes FREE makes a WAITING seat evaluate. -/
def Obligations.YieldArrivalFreesTheLaneOfItsSender : Prop :=
  ∀ (h : Header) (lane reason : BitVec 3) (s : State), s.Hears h → h.key.toNat = lane.toNat →
    Gives (.yieldArrival h lane reason) s fun t =>
      (∀ i : Fin 8, t.lanes[i] =
        if i = laneOf lane ∧ s.lanes[i].holder? = some h.sender.toNat then .free else s.lanes[i]) ∧
      t.mutes = (if h.standing = .chair then muteLeave h.sender.toNat s.mutes else s.mutes) ∧
      t.window = s.window ∧ t.mark = s.mark ∧ t.ownAsk = s.ownAsk ∧ s.Posts t (s.floorEvents t) ∧
      (∀ ticket, s.ownAsk = .live ticket → s.seat = .waiting → s.lanes[laneOf lane].holder? = some h.sender.toNat →
        t.Evaluated ticket s.sq.floor) ∧
      (s.seat ≠ .waiting ∨ s.lanes[laneOf lane].holder? ≠ some h.sender.toNat →
        t = { s with li := s.li.afterSlot, lanes := t.lanes, mutes := t.mutes,
                     st := { s.st with phase := t.st.phase }, freeCount := t.freeCount,
                     pp := { s.pp with events := t.pp.events, feed := t.pp.feed, overflow := t.pp.overflow,
                                       overflowSince := t.pp.overflowSince } })

/-- HOLD_ARRIVAL (R34, R57 to R60, R62, R69, R113, R126, R172): a FREE lane is learnt, the holder's record is refreshed with its
ticket kept, and of two claimants the lower keeps the lane; the sender's other lanes become FREE, those of a higher claimant by
R59 or not by R52, which differ (a free value, log entry 9). A HOLD of the own lane from a lower address makes the seat yield
with CONFLICT and post LANE_LOST, but for a muting chair, which by R172 enters IDLE without a YIELD or by R126 yields (a free
value, log entry 26); one from a higher address changes nothing at the seat. The changes of the lanes and of mute active are
posted. A WAITING seat evaluates when the view has changed. -/
def Obligations.HoldArrivalLearnsRefreshesOrSettles : Prop :=
  ∀ (h : Header) (elapsed : BitVec 16) (muting warned : Bool) (n : Fin 8) (s : State), s.Hears h →
    h.key.toNat = n.val →
    Gives (.holdArrival h elapsed muting warned) s fun t =>
      let learnt : HeldLane :=
        { holder := h.sender.toNat, standing := h.standing, ticket := 0, age := elapsed.toNat, silence := 0,
          muting := muting && decide (h.standing = .chair), warned := warned }
      let frees : Bool := !(s.lanes[n].heldBelow h.sender.toNat) || Config.higherClaimFrees
      t.lanes[n] = (match s.lanes[n] with
        | .free => .held learnt
        | .held r =>
          if r.holder = h.sender.toNat then .held { learnt with ticket := r.ticket }
          else if h.sender.toNat < r.holder then .held learnt
          else .held r) ∧
      (∀ i : Fin 8, i ≠ n →
        t.lanes[i] =
          if s.lanes[i].holder? = some h.sender.toNat ∧ frees = true then .free
          else s.lanes[i]) ∧
      t.mutes = (if h.standing = .chair then
        (if muting then muteJoin h.sender.toNat s.mutes else muteLeave h.sender.toNat s.mutes) else s.mutes) ∧
      t.window = s.window ∧ t.mark = s.mark ∧ t.ownAsk = s.ownAsk ∧ s.EvaluatesAt t ∧
      s.Posts t (s.floorEvents t ++ (match s.seat.speaking? with
        | some o => if o.lane = n ∧ h.sender.toNat < s.addr then [.laneLost h.sender.toNat] else []
        | none => [])) ∧
      (s.seat ≠ .waiting → (∀ o, s.seat.speaking? = some o → o.lane ≠ n) →
        t = { s with li := s.li.afterSlot, lanes := t.lanes, mutes := t.mutes,
                     st := { s.st with phase := t.st.phase }, freeCount := t.freeCount,
                     pp := { s.pp with events := t.pp.events, feed := t.pp.feed, overflow := t.pp.overflow,
                                       overflowSince := t.pp.overflowSince } }) ∧
      (∀ o, s.seat.speaking? = some o → o.lane = n →
        (h.sender.toNat < s.addr →
          (if s.role = .chair ∧ o.muting = true ∧ Config.mutingChairYields = false then
            t.seat = .idle ∧ t.sq = s.sq ∧ t.gc.gateDelay = .stopped ∧ t.gc.laneSel = s.gc.laneSel ∧
            t.gc.spkMute = s.gc.spkMute
          else
            t.seat = .yielding o .conflict ∧
            t.sq = { s.sq with floor := some { content := .yield o.lane .conflict, count := 0 } } ∧
            t.gc = { s.gc with gateDelay := .stopped }) ∧
          t.gateOpen = false ∧ t.flags = s.flags ∧
          (s.st.speaking = true →
            t.st = { s.st with lastSpeech := s.st.elapsed, speaking := false, phase := .idle, remaining := 0,
                               speechGrace := 0, correction := 0, elapsed := 0 }) ∧
          (s.ViewLaw → s.pp.events.length ≤ 8 → (∀ r ∈ s.pp.events, r.event ≠ .overrun) →
            { event := .laneLost h.sender.toNat, stamp := s.viewTicks : EventRec } ∈ t.pp.events)) ∧
        (s.addr < h.sender.toNat →
          t.seat = s.seat ∧ t.sq = s.sq ∧ t.gc = s.gc ∧ t.st = { s.st with phase := t.st.phase } ∧
          (h.standing ≠ .chair → t.st = s.st)))

/-- R69, R136, R141, R158, R176: a chair's muting TAKE of another lane closes the gate of a LIVE or WARNED seat that is no chair,
pauses its timer when it counts (an untimed speech has none) and blinks its ring slowly; a LIVE chair, whose speech is untimed,
goes on. A seat that is no chair is opened again when the last muting chair's clearing HOLD of another lane arrives. -/
def Obligations.MuteClosesGatesAndPausesTimers : Prop :=
  ∀ (h : Header) (lane : BitVec 3) (n : Fin 8) (displace : Bool) (elapsed : BitVec 16) (o : OwnLane) (s : State),
    s.Hears h → h.standing = .chair → s.flags.clash = false → (s.seat = .live o ∨ s.seat = .warned o) → s.ChairLaw →
    (o.lane ≠ laneOf lane → s.mutes = [] →
      Gives (.takeArrival h lane displace true) s fun t =>
        t.muteActive = true ∧ t.seat = s.seat ∧ t.gc = s.gc ∧
        t.st = { s.st with phase := match s.st.phase with | .counting c => .paused c | p => p } ∧
        (s.role ≠ .chair → t.gateOpen = false ∧ t.ring = .blinkSlow) ∧
        (s.role = .chair → t.st = s.st ∧ t.gateOpen = s.gateOpen ∧ (s.seat = .live o → t.ring = .on))) ∧
    (o.lane ≠ n → h.key.toNat = n.val → (∃ silence, s.mutes = [{ chair := h.sender.toNat, silence := silence }]) →
      Gives (.holdArrival h elapsed false false) s fun t =>
        t.muteActive = false ∧ t.seat = s.seat ∧ t.gc = s.gc ∧
        t.st = { s.st with phase := match s.st.phase with | .paused c => .counting c | p => p } ∧
        t.gateOpen = (decide (s.gc.gateDelay = .expired) && !s.flags.cough) ∧
        t.ring = (if s.seat = .live o then .on else .blinkFast))

/-- DIRECT_CUT_ARRIVAL (R28, R61, R62, R113, R127, R144): the PRIORITY and DELEGATE lanes of the target, or of everyone, become
FREE, and such a seat that is named ends its speech or drops its YIELD; a chair's lane and seat stay. The changes of the lanes
are posted, and CUT at a seat that spoke. A WAITING seat evaluates when the view has changed. -/
def Obligations.CutArrivalFreesDelegateLanes : Prop :=
  ∀ (h : Header) (target : AddrBits) (argument : BitVec 13) (s : State), s.Hears h → h.standing = .chair →
    h.key.toNat = 0 → target.toNat ≤ 1000 →
    Gives (.directCutArrival h target argument) s fun t =>
      (∀ i : Fin 8, t.lanes[i] = match s.lanes[i] with
        | .free => .free
        | .held r =>
          if (r.standing = .priority ∨ r.standing = .delegate) ∧ (target.toNat = 0 ∨ r.holder = target.toNat) then .free
          else .held r) ∧
      t.mutes = s.mutes ∧ t.window = s.window ∧ t.mark = s.mark ∧ t.ownAsk = s.ownAsk ∧ t.order = s.order ∧
      s.EvaluatesAt t ∧
      s.Posts t (s.floorEvents t ++ (match s.seat.speaking? with
        | some o => if (target.toNat = 0 ∨ target.toNat = s.addr) ∧ s.isDelegateSeat = true then [.cut o.lane] else []
        | none => [])) ∧
      ((target.toNat = 0 ∨ target.toNat = s.addr) → s.isDelegateSeat = true →
        match s.seat with
        | .live o | .warned o =>
          t.seat = .idle ∧ t.sq = s.sq ∧ t.gateOpen = false ∧
          (s.st.speaking = true → t.st.speaking = false ∧ t.st.lastSpeech = s.st.elapsed) ∧
          (s.pp.events.length ≤ 7 → (∀ r ∈ s.pp.events, r.event ≠ .overrun) →
            { event := .cut o.lane, stamp := s.viewTicks : EventRec } ∈ t.pp.events)
        | .yielding _ _ => t.seat = .idle ∧ t.sq = { s.sq with floor := none }
        | .waiting => True
        | other => t.seat = other ∧ t.sq = s.sq) ∧
      (¬ ((target.toNat = 0 ∨ target.toNat = s.addr) ∧ s.isDelegateSeat = true) → s.seat ≠ .waiting →
        t = { s with li := s.li.afterSlot, lanes := t.lanes, freeCount := t.freeCount,
                     pp := { s.pp with events := t.pp.events, feed := t.pp.feed, overflow := t.pp.overflow,
                                       overflowSince := t.pp.overflowSince } })

/-- DIRECT_GRANT_ARRIVAL (R28, R112, R115, R156): a WAITING target with its ask LIVE takes the lowest FREE lane with its ticket,
whatever the mode, or posts GRANT_NO_LANE; every other seat ignores it. -/
def Obligations.GrantArrivalMakesItsTargetTake : Prop :=
  ∀ (h : Header) (target : AddrBits) (argument : BitVec 13) (s : State), s.Hears h → h.standing = .chair →
    h.key.toNat = 0 → 1 ≤ target.toNat → target.toNat ≤ 1000 →
    Gives (.directGrantArrival h target argument) s fun t =>
      if target.toNat = s.addr ∧ s.isDelegateSeat = true then
        match s.seat, s.ownAsk, s.freeLanes with
        | .waiting, .live ticket, lane :: _ =>
          t.seat = .taking { kind := .grant, lane := lane, key := ticket, displace := false, muting := false,
                             mode := s.order.mode, grantor := h.sender.toNat } ∧
          t.sq = { s.sq with floor := some { content := .take, count := 0 } } ∧ t.vu.trim = none ∧ s.Posts t (s.floorEvents t) ∧
          t = { s with li := s.li.afterSlot, seat := t.seat, sq := t.sq, vu := { s.vu with trim := none },
                       freeCount := t.freeCount,
                       pp := { s.pp with events := t.pp.events, feed := t.pp.feed, overflow := t.pp.overflow,
                                         overflowSince := t.pp.overflowSince } }
        | .waiting, .live _, [] =>
          t = { s with li := s.li.afterSlot, freeCount := s.freeCount + 1,
                       pp := { s.pp with
                         events := enqueueEvent s.viewTicks s.pp.reading s.pp.events (.grantNoLane h.sender.toNat),
                         feed := t.pp.feed, overflow := t.pp.overflow, overflowSince := t.pp.overflowSince } }
        | _, _, _ =>
          t = { s with li := s.li.afterSlot,
                       pp := { s.pp with feed := t.pp.feed, overflow := t.pp.overflow,
                                         overflowSince := t.pp.overflowSince } }
      else
        t = { s with li := s.li.afterSlot,
                     pp := { s.pp with feed := t.pp.feed, overflow := t.pp.overflow,
                                       overflowSince := t.pp.overflowSince } }

/-- DIRECT_EXTEND_ARRIVAL (R28, R29, R139): at a named seat whose timer runs the argument is added to the pending
correction, within -4095..+4095; any other seat discards it. -/
def Obligations.ExtendArrivalAddsToThePendingCorrection : Prop :=
  ∀ (h : Header) (target : AddrBits) (argument : BitVec 13) (s : State), s.Hears h → h.standing = .chair →
    h.key.toNat = 0 → target.toNat ≤ 1000 →
    Gives (.directExtendArrival h target argument) s fun t =>
      t = { s with
        li := s.li.afterSlot
        st := { s.st with
          correction :=
            if (target.toNat = 0 ∨ target.toNat = s.addr) ∧ s.st.phase ≠ .idle then
              max (-4095) (min 4095 (s.st.correction + max (-4095) argument.toInt))
            else s.st.correction }
        pp := { s.pp with feed := t.pp.feed, overflow := t.pp.overflow, overflowSince := t.pp.overflowSince } }

/-- DIRECT_DROP_ASK_ARRIVAL (R28, R83, R88, R92, R113, R129, R145): the target's entry leaves the window, or all do; a named
seat's Own Ask ends with DROPPED, and the seat leaves the line; a WITHDRAW still pending at a named IDLE seat is removed.
ASK_ENDED and the change of the line are posted. A WAITING seat that is not named evaluates when an entry has left. -/
def Obligations.DropAskArrivalEndsTheTargetsAsk : Prop :=
  ∀ (h : Header) (target : AddrBits) (argument : BitVec 13) (s : State), s.Hears h → h.standing = .chair →
    h.key.toNat = 0 → target.toNat ≤ 1000 →
    Gives (.directDropAskArrival h target argument) s fun t =>
      t.window = (if target.toNat = 0 then []
                  else if target.toNat = s.addr then s.window
                  else s.window.filter fun e => decide (e.asker ≠ target.toNat)) ∧
      t.mark = s.mark ∧ t.lanes = s.lanes ∧ t.order = s.order ∧
      s.Posts t (s.floorEvents t ++
        (if (target.toNat = 0 ∨ target.toNat = s.addr) ∧ s.ownAsk ≠ .none then [.askEnded .dropped] else [])) ∧
      (target.toNat = 0 ∨ target.toNat = s.addr →
        t.ownAsk = .none ∧
        (s.seat = .idle → t.seat = .idle ∧
          match s.sq.floor with
          | some { content := .withdraw _ _, .. } => t.sq = { s.sq with floor := none }
          | _ => t.sq = s.sq) ∧
        (s.ownAsk ≠ .none → t.st = { s.st with waitMeter := 0 } ∧
          (s.pp.events.length ≤ 8 → (∀ r ∈ s.pp.events, r.event ≠ .overrun) →
            { event := .askEnded .dropped, stamp := s.viewTicks : EventRec } ∈ t.pp.events) ∧
          match s.seat with
          | .asking => t.seat = .idle ∧ t.sq.floor = none
          | .waiting => t.seat = .idle
          | .taking k =>
            if k.kind = .line ∨ k.kind = .grant then t.seat = .idle ∧ t.sq.floor = none else t.seat = s.seat
          | _ => t.seat = s.seat)) ∧
      (target.toNat ≠ 0 → target.toNat ≠ s.addr → t.ownAsk = s.ownAsk ∧ s.EvaluatesAt t ∧
        (s.seat ≠ .waiting →
          t = { s with li := s.li.afterSlot, window := t.window, freeCount := t.freeCount,
                       pp := { s.pp with events := t.pp.events, feed := t.pp.feed, overflow := t.pp.overflow,
                                         overflowSince := t.pp.overflowSince } }))

/-- ASK_ARRIVAL (R33, R76, R77, R85, R92, R113): an entry with the same ticket is refreshed in place; otherwise the asker's new
entry takes the place its (ticket, address) pair gives, in place of its old one, and of 33 pairs the last is not kept. When the
pairs have changed, LINE_CHANGED is posted and a WAITING seat evaluates. -/
def Obligations.AskArrivalKeepsTheLowestPairs : Prop :=
  ∀ (h : Header) (refresh : Bool) (s : State), s.Hears h → s.WindowLaw → h.standing ≠ .chair → 1 ≤ h.key.toNat →
    Gives (.askArrival h refresh) s fun t =>
      let e : Entry := { asker := h.sender.toNat, ticket := h.key.toNat, standing := h.standing, silence := 0 }
      t.window.length ≤ 32 ∧ s.EvaluatesAt t ∧ s.Posts t (s.floorEvents t) ∧
      t.mark = max s.mark h.key.toNat ∧ t.lanes = s.lanes ∧ t.ownAsk = s.ownAsk ∧ t.order = s.order ∧
      ((∃ x ∈ s.window, x.asker = e.asker ∧ x.ticket = e.ticket) →
        t.window = s.window.map fun x => if x.asker = e.asker then e else x) ∧
      ((∀ x ∈ s.window, ¬ (x.asker = e.asker ∧ x.ticket = e.ticket)) →
        ∃ out : List Entry,
          (t.window ++ out).Perm (e :: s.window.filter fun x => decide (x.asker ≠ e.asker)) ∧
          (t.window ++ out).Pairwise (fun x y => pairBefore x.ticket x.asker y.ticket y.asker = true) ∧
          out.length ≤ 1 ∧
          (out ≠ [] → s.window.length = 32 ∧ t.window.length = 32 ∧ ∀ x ∈ s.window, x.asker ≠ e.asker)) ∧
      (s.seat ≠ .waiting →
        t = { s with li := s.li.afterSlot, window := t.window, mark := t.mark, freeCount := t.freeCount,
                     pp := { s.pp with events := t.pp.events, feed := t.pp.feed, overflow := t.pp.overflow,
                                       overflowSince := t.pp.overflowSince } })

/-- WITHDRAW_ARRIVAL (R32, R77, R86, R92, R113): the sender's entry leaves when its ticket is the key, and the Mark rises; an
entry that leaves is posted as LINE_CHANGED and makes a WAITING seat evaluate. -/
def Obligations.WithdrawArrivalRemovesTheMatchingEntry : Prop :=
  ∀ (h : Header) (reason : BitVec 2) (s : State), s.Hears h → h.standing ≠ .chair → 1 ≤ h.key.toNat →
    Gives (.withdrawArrival h reason) s fun t =>
      t.window = s.window.filter (fun e => !(decide (e.asker = h.sender.toNat) && decide (e.ticket = h.key.toNat))) ∧
      t.mark = max s.mark h.key.toNat ∧ t.lanes = s.lanes ∧ t.ownAsk = s.ownAsk ∧ t.order = s.order ∧
      s.Posts t (s.floorEvents t) ∧
      (∀ ticket, s.ownAsk = .live ticket → s.seat = .waiting →
        (∃ e ∈ s.window, e.asker = h.sender.toNat ∧ e.ticket = h.key.toNat) → t.Evaluated ticket s.sq.floor) ∧
      (s.seat ≠ .waiting ∨ (∀ e ∈ s.window, ¬ (e.asker = h.sender.toNat ∧ e.ticket = h.key.toNat)) →
        t = { s with li := s.li.afterSlot, window := t.window, mark := t.mark, freeCount := t.freeCount,
                     pp := { s.pp with events := t.pp.events, feed := t.pp.feed, overflow := t.pp.overflow,
                                       overflowSince := t.pp.overflowSince } })

/-- R98: which orders are adopted, by origin, distance and source alone; and an ORDER that is not adopted changes nothing
at the Floor Order. The order a chair stamps, one beyond its record, is always adopted. -/
def Obligations.OrdersAreComparedBySequenceAndSource : Prop :=
  ∀ (r : OrderRec) (sequence : BitVec 8) (source : Nat),
    (r.origin = .profile → adopts r sequence source = true) ∧
    (r.origin = .line →
      let d := (sequence.toNat + 256 - r.sequence.toNat) % 256
      (1 ≤ d → d ≤ 127 → adopts r sequence source = true) ∧
      (128 ≤ d → adopts r sequence source = false) ∧
      (d = 0 → adopts r sequence source = decide (source < r.source))) ∧
    adopts r (r.sequence + 1) source = true ∧
    (∀ (f : Frame) (clash : Bool) (s : State) (q : BitVec 8) (a : AddrBits) (m : BitVec 2) (l : BitVec 4) (al : BitVec 8)
        (g c : BitVec 6) (clear : Bool),
      f.body = .order a q m l al g c clear → adopts s.order q a.toNat = false → orderArrivalFO clash f s = s)

/-- ORDER_ARRIVAL (R26, R27, R83, R89, R92, R99 to R101, R113, R121, R129): an adopted order takes over the record, clamped, with
origin LINE; a clearing one empties the line and sets the Mark to 0, a transition into OVERRIDE or VOICE empties the line, and no
lane, speech or timer is touched. ORDER_CHANGED is posted with the source, beside the change of the line and the end of the ask,
CLEARED or MODE. A seat whose ask has ended leaves the line, a take from the line with it; where the line is emptied, a WITHDRAW
still pending at an IDLE seat is removed; a transition out of VOICE clears the cough flag; and a WAITING seat whose ask goes on
evaluates when the record has changed. An order that is not adopted leaves the floor as it stands. -/
def Obligations.OrderArrivalIsAdoptedOrIgnored : Prop :=
  ∀ (h : Header) (source : AddrBits) (sequence : BitVec 8) (mode : BitVec 2) (l : BitVec 4) (a : BitVec 8)
      (g c : BitVec 6) (clear : Bool) (s : State),
    s.Hears h → h.standing = .chair → h.key.toNat = 0 → 1 ≤ source.toNat → source.toNat ≤ 1000 →
    Gives (.orderArrival h source sequence mode l a g c clear) s fun t =>
      if adopts s.order sequence source.toNat then
        t.order = { mode := modeOfCode mode.toNat, laneLimit := max 1 (min 8 l.toNat), allowance := a.toNat,
                    grace := min 60 g.toNat, capacity := max 1 (min 32 c.toNat), sequence := sequence,
                    source := source.toNat, origin := .line } ∧
        t.lanes = s.lanes ∧ t.mutes = s.mutes ∧ t.gc = s.gc ∧ t.st = { s.st with waitMeter := t.st.waitMeter } ∧
        (clear = true → t.window = [] ∧ t.mark = 0 ∧ t.ownAsk = .none) ∧
        (clear = false → t.mark = s.mark) ∧
        ((t.order.mode = .override ∨ t.order.mode = .voice) → t.order.mode ≠ s.order.mode →
          t.window = [] ∧ t.ownAsk = .none) ∧
        (clear = false → (t.order.mode = s.order.mode ∨ t.order.mode = .openFloor ∨ t.order.mode = .moderated) →
          t.window = s.window ∧ t.ownAsk = s.ownAsk ∧ t.st = s.st) ∧
        s.Posts t (.orderChanged source.toNat :: s.floorEvents t ++
          (if s.ownAsk ≠ .none ∧ t.ownAsk = .none then [.askEnded (if clear then .cleared else .mode)] else [])) ∧
        t.flags = { s.flags with cough := s.flags.cough && !decide (s.order.mode = .voice ∧ t.order.mode ≠ .voice) } ∧
        (let empties : Prop := clear = true ∨
           (t.order.mode = .override ∨ t.order.mode = .voice) ∧ t.order.mode ≠ s.order.mode
         (empties → s.ownAsk ≠ .none →
           match s.seat with
           | .asking => t.seat = .idle ∧ t.sq.floor = none
           | .waiting => t.seat = .idle
           | .taking k =>
             if k.kind = .line ∨ k.kind = .grant then t.seat = .idle ∧ t.sq.floor = none
             else t.seat = s.seat ∧ t.sq = s.sq
           | _ => True) ∧
         (s.seat = .idle → t.seat = .idle ∧
           match s.sq.floor with
           | some { content := .withdraw _ _, .. } =>
             (empties → t.sq = { s.sq with floor := none }) ∧ (¬ empties → t.sq = s.sq)
           | _ => t.sq = s.sq) ∧
         (¬ empties ∨ s.ownAsk = .none → s.seat ≠ .waiting → s.seat ≠ .idle → t.seat = s.seat ∧ t.sq = s.sq)) ∧
        (∀ ticket, s.ownAsk = .live ticket → s.seat = .waiting → t.ownAsk = .live ticket → t.order ≠ s.order →
          t.Evaluated ticket s.sq.floor)
      else
        t = { s with li := s.li.afterSlot,
                     pp := { s.pp with feed := t.pp.feed, overflow := t.pp.overflow,
                                       overflowSince := t.pp.overflowSince } }

/-- R24, R25, R28, R35, R41, R187: every accepted frame is offered to the feed as read, whatever its verdict: stored while the
feed is on and holds fewer than 16 records, and otherwise lost with the overflow flag set. The frame of another station is stored
with the own flag clear, and this station's own frame, at its completion, with the own flag set. An arrival that is discarded
after acceptance (DIRECT_ACTION_4_7_ARRIVAL among them) changes nothing else, at a station whose address it does not bear. -/
def Obligations.AcceptedFramesReachTheFeedWhateverTheirVerdict : Prop :=
  ∀ (c : Instr) (slot : SlotId) (f : Frame) (s : State), s.Ready →
    (arrivalOf c = some f → s.receives = true →
      Gives c s fun t =>
        s.Fed t false f ∧
        (s.flags.restartPending = false → f.head.sender.toNat ≠ s.addr →
          (screen f = .discarded ∨ ∃ h target action argument, c = .directAction47Arrival h target action argument ∧
            4 ≤ action.toNat) →
          t = { s with li := s.li.afterSlot,
                       pp := { s.pp with feed := t.pp.feed, overflow := t.pp.overflow,
                                         overflowSince := t.pp.overflowSince } })) ∧
    (s.sq.inFlight = some { slot := slot, frame := f } → s.li.bitFault = false →
      Gives .attemptCompleted s fun t => s.Fed t true f)

/-- R130, R50, R83, R178: any accepted frame that bears the own address puts a station that is not in LISTEN into LISTEN: its
queue is empty, its ask and its speech have ended, ADDRESS_CLASH is posted with the address, and both lamps blink fast. -/
def Obligations.AddressClashSilencesTheStation : Prop :=
  ∀ (c : Instr) (f : Frame) (s : State), arrivalOf c = some f → s.Ready → s.receives = true →
    f.head.sender.toNat = s.addr → s.seat ≠ .listen →
    Gives c s fun t =>
      t.seat = .listen ∧
      t.flags = { cancelLatch := none, restartPending := false, pendingPress := false, cough := false, clash := true,
                  priorityHeld := false } ∧
      t.sq = { order := none, nextOrder := none, direct := [], floor := none, floorHeld := none, askref := none,
               askrefHeld := false, hold := none, holdHeld := false, inFlight := none, repeatCount := 0 } ∧
      t.ownAsk = .none ∧ (s.seat.speaking?.isSome = true → t.st.speaking = false) ∧ t.flTx = true ∧ t.gateOpen = false ∧
      t.ring = .blinkFast ∧ t.req = .blinkFast ∧ t.flash = .stopped ∧ t.vu = s.vu ∧
      (t.key1 = s.key1 ∧ t.key2 = s.key2 ∧ t.key3 = s.key3) ∧ t.viewTicks = s.viewTicks ∧
      (s.pp.events.length ≤ 3 → (∀ r ∈ s.pp.events, r.event ≠ .overrun) →
        { event := .addressClash s.addr, stamp := s.viewTicks : EventRec } ∈ t.pp.events)

/-! ## Ticks -/

/-- VIEW_TICK (R45, R46, R48, R62 to R64, R68, R69, R90, R92, R104, R113, R145): the counter rises modulo 65536; every lane ages,
and one that is not own-kept falls silent and lapses at three; mute sources and line entries lapse at three; the wait meter
counts a LIVE ask; and a LIVE or WARNED seat places a HOLD and a LIVE ask a refresh: pending in an empty slot with count 0, not
added to one that is pending, and held behind one in flight; none is placed in the wait of a restart. At a chair outside
SETTLING, LISTEN and that wait the repeat count rises, and where it would reach 4 it goes to 0 and a repeat is placed in an ORDER
slot that holds nothing. The changes of the lanes, of mute active and of the line are posted. A WAITING seat evaluates. -/
def Obligations.ViewTickAgesTheFloorAndPlacesHolds : Prop :=
  ∀ (s : State), s.Ready → s.SettlingLaw →
    Gives .viewTick s fun t =>
      t.viewTicks = (if 65535 ≤ s.viewTicks then 0 else s.viewTicks + 1) ∧
      (∀ i : Fin 8, t.lanes[i] = match s.lanes[i] with
        | .free => .free
        | .held r =>
          if r.holder = s.addr ∧ s.seat.own?.map OwnLane.lane = some i then .held { r with age := min 65535 (r.age + 1) }
          else if 2 ≤ r.silence then .free
          else .held { r with age := min 65535 (r.age + 1), silence := r.silence + 1 }) ∧
      t.mutes = (s.mutes.filter fun m => decide (m.silence < 2)).map (fun m => { m with silence := m.silence + 1 }) ∧
      t.window = (s.window.filter fun e => decide (e.silence < 2)).map (fun e => { e with silence := e.silence + 1 }) ∧
      t.mark = s.mark ∧ t.ownAsk = (if s.seat = .settling 3 then t.ownAsk else s.ownAsk) ∧ t.order = s.order ∧
      t.st.waitMeter = (match s.ownAsk with | .live _ => min 65535 (s.st.waitMeter + 1) | _ => s.st.waitMeter) ∧
      t.st = { s.st with waitMeter := t.st.waitMeter, phase := t.st.phase } ∧ t.gc = s.gc ∧ t.li = s.li ∧
      (t.key1 = s.key1 ∧ t.key2 = s.key2 ∧ t.key3 = s.key3) ∧
      (s.seat ≠ .settling 3 → s.Posts t (s.floorEvents t)) ∧
      t.sq.hold = (if s.seat.speaking?.isSome = true ∧ s.flags.restartPending = false ∧ s.flying .hold = false
                   then some (s.sq.hold.getD 0) else s.sq.hold) ∧
      t.sq.holdHeld = (s.sq.holdHeld ||
        (s.seat.speaking?.isSome && !s.flags.restartPending && s.flying .hold)) ∧
      t.sq.askref = (if s.ownAsk ≠ .none ∧ s.ownAsk ≠ .pending ∧ s.flags.restartPending = false ∧
                        s.flying .askref = false
                     then some (s.sq.askref.getD 0) else s.sq.askref) ∧
      t.sq.askrefHeld = (s.sq.askrefHeld ||
        (decide (s.ownAsk ≠ .none ∧ s.ownAsk ≠ .pending) && !s.flags.restartPending && s.flying .askref)) ∧
      t.sq.direct = s.sq.direct ∧ t.sq.inFlight = s.sq.inFlight ∧
      (let repeats : Bool := s.isChair && !s.seat.isSettling && decide (s.seat ≠ .listen) && !s.flags.restartPending
       t.sq.repeatCount = (if repeats then (if s.sq.repeatCount < 3 then s.sq.repeatCount + 1 else 0)
                           else s.sq.repeatCount) ∧
       (repeats = true → 3 ≤ s.sq.repeatCount → s.sq.order = none → s.sq.nextOrder = none → s.flying .order = false →
         t.sq.order = some
           { content := if s.order.origin = .profile then .new .fromRecord else .repeated, count := 0 }) ∧
       (repeats = false ∨ s.sq.repeatCount < 3 ∨ s.sq.order ≠ none ∨ s.sq.nextOrder ≠ none → s.seat ≠ .settling 3 →
         t.sq.order = s.sq.order)) ∧
      (∀ ticket, s.ownAsk = .live ticket → s.seat = .waiting → s.flags.restartPending = false →
        s.flying .floor = false → t.Evaluated ticket s.sq.floor)

/-- SETTLING_END and the fourth VIEW_TICK (R103, R107): SETTLING ends in IDLE, a chair that has heard no order places its
own, and a pending press acts as TALK. SETTLING_END is the model's
own step of that tick (log entry 8). -/
def Obligations.SettlingEndsAtTheFourthViewTick : Prop :=
  ∀ (n : Nat) (s : State), s.Ready → s.seat = .settling n → s.sq.Idle → s.sq.inFlight = none → s.ownAsk = .none →
    (n < 3 → Gives .viewTick s fun t => t.seat = .settling (n + 1) ∧ t.sq = s.sq ∧ t.flags = s.flags) ∧
    (n = 3 →
      (s.flags.pendingPress = false →
        (Gives .viewTick s fun t =>
          t.seat = .idle ∧ t.flags = s.flags ∧
          t.sq = { s.sq with order :=
            if s.isChair = true ∧ s.order.origin = .profile then some { content := .new .fromRecord, count := 0 }
            else none }) ∧
        Gives .settlingEnd s fun t =>
          t = { s with
            seat := .idle
            sq := { s.sq with order :=
              if s.isChair = true ∧ s.order.origin = .profile then some { content := .new .fromRecord, count := 0 }
              else none } }) ∧
      (s.flags.pendingPress = true → s.role = .delegate → s.order.mode = .moderated → s.mark < 65535 →
        s.window.length < s.order.capacity →
        Gives .settlingEnd s fun t =>
          t = { s with seat := .asking, ownAsk := .pending, flags := { s.flags with pendingPress := false },
                       sq := { s.sq with floor := some { content := .ask, count := 0 } } }) ∧
      (s.flags.pendingPress = true → s.isDelegateSeat = true → s.order.mode = .voice →
        Gives .settlingEnd s fun t => t = { s with seat := .idle, flags := { s.flags with pendingPress := false } }))

/-- ORDER_REPEAT (R48, R102 to R104), the model's own step of the view tick at which a repeat falls due (log entry 8): at a
chair outside SETTLING, LISTEN and the wait of a restart whose repeat count stands at 3, it sets the count to 0 and places a
repeat (a new order from the record while none has been heard) in an ORDER slot that holds nothing, and nothing behind one that
holds a frame. What each kind of order sends: a repeat the record itself, a new order its content (the record's own, when it is
placed from the record) under this station's address and the next sequence. -/
def Obligations.OrdersAreRepeatedAndStampedFromTheRecord : Prop :=
  ∀ (o : OrderFields) (s : State),
    (s.Ready → s.role = .chair → s.seat.isSettling = false → s.seat ≠ .listen → s.flags.restartPending = false →
      s.sq.repeatCount = 3 →
      (s.sq.order = none → s.sq.nextOrder = none → s.flying .order = false →
        Gives .orderRepeat s fun t =>
          t = { s with sq := { s.sq with
            repeatCount := 0
            order := some
              { content := if s.order.origin = .profile then .new .fromRecord else .repeated, count := 0 } } }) ∧
      ((s.sq.order.isSome = true ∨ s.sq.nextOrder.isSome = true) →
        Gives .orderRepeat s fun t => t = { s with sq := { s.sq with repeatCount := 0 } })) ∧
    (s.order.InRange → 1 ≤ s.addr → s.addr ≤ 1000 →
      (∃ source mode l a g c, orderBody .repeated s = .order source s.order.sequence mode l a g c false ∧
        source.toNat = s.order.source ∧ modeOfCode mode.toNat = s.order.mode ∧ l.toNat = s.order.laneLimit ∧
        a.toNat = s.order.allowance ∧ g.toNat = s.order.grace ∧ c.toNat = s.order.capacity) ∧
      (∃ source mode l a g c, orderBody (.new .fromRecord) s = .order source (s.order.sequence + 1) mode l a g c false ∧
        source.toNat = s.addr ∧ modeOfCode mode.toNat = s.order.mode ∧ l.toNat = s.order.laneLimit ∧
        a.toNat = s.order.allowance ∧ g.toNat = s.order.grace ∧ c.toNat = s.order.capacity) ∧
      (o.laneLimit ≤ 8 → o.allowance ≤ 255 → o.grace ≤ 60 → o.capacity ≤ 32 →
        ∃ source mode l a g c, orderBody (.new (.fixed o)) s = .order source (s.order.sequence + 1) mode l a g c o.clear ∧
          source.toNat = s.addr ∧ modeOfCode mode.toNat = o.mode ∧ l.toNat = o.laneLimit ∧ a.toNat = o.allowance ∧
          g.toNat = o.grace ∧ c.toNat = o.capacity))

/-- LANE_LAPSE, MUTE_SOURCE_LAPSE and LINE_ENTRY_LAPSE (R62 to R64, R68, R69, R90, R92, R113): what has been silent long enough
leaves and is posted, and nothing else does; a WAITING seat evaluates at the lapse of a lane or of an entry. They are the model's
own steps of a view tick (log entry 8). -/
def Obligations.LapsesRemoveWhatFellSilent : Prop :=
  ∀ (n : BitVec 3) (a : AddrBits) (s : State), s.Ready →
    let waits (ticket : Nat) : Prop := s.seat = .waiting ∧ s.ownAsk = .live ticket ∧ s.flags.restartPending = false ∧
      s.flying .floor = false
    (∀ r, s.lanes[laneOf n] = .held r → r.silence = 2 →
      ¬ (r.holder = s.addr ∧ s.seat.own?.map OwnLane.lane = some (laneOf n)) →
      Gives (.laneLapse n) s fun t =>
        (∀ i : Fin 8, t.lanes[i] = if i = laneOf n then .free else s.lanes[i]) ∧ t.window = s.window ∧
        s.Posts t (s.floorEvents t) ∧
        (s.seat ≠ .waiting → t = State.posting { s with lanes := t.lanes } (.laneChanged (laneOf n))) ∧
        ∀ ticket, waits ticket → t.Evaluated ticket s.sq.floor) ∧
    ((∃ m ∈ s.mutes, m.chair = a.toNat ∧ m.silence = 2) →
      Gives (.muteSourceLapse a) s fun t =>
        t.mutes = (s.mutes.filter fun m => decide (m.chair ≠ a.toNat)) ∧ t.lanes = s.lanes ∧ t.seat = s.seat ∧
        (t.mutes ≠ [] → t = { s with mutes := t.mutes }) ∧
        (t.mutes = [] → t.st = { s.st with phase := match s.st.phase with | .paused c => .counting c | p => p } ∧
          t.pp.events = enqueueEvent s.viewTicks s.pp.reading s.pp.events (.muteChanged false))) ∧
    ((∃ e ∈ s.window, e.asker = a.toNat ∧ e.silence = 2) →
      Gives (.lineEntryLapse a) s fun t =>
        t.window = (s.window.filter fun e => decide (e.asker ≠ a.toNat)) ∧ t.lanes = s.lanes ∧
        s.Posts t (s.floorEvents t) ∧
        (s.seat ≠ .waiting → t = State.posting { s with window := t.window } .lineChanged) ∧
        ∀ ticket, waits ticket → t.Evaluated ticket s.sq.floor)

/-- SPEECH_TICK (R137, R140): a tick counts elapsed; a pending correction is applied in place of the count, and a positive
one in grace lifts the warning; otherwise a phase that is not paused falls by 1. -/
def Obligations.SpeechTickCountsOrCorrects : Prop :=
  ∀ (s : State), s.Ready → s.st.speaking = true →
    Gives .speechTick s fun t =>
      let sum : Int := (s.st.remaining : Int) + s.st.correction
      (s.st.phase = .idle → t = { s with st := { s.st with elapsed := min 65535 (s.st.elapsed + 1) } }) ∧
      (∀ c, s.st.phase = .paused c → s.st.correction = 0 →
        t = { s with st := { s.st with elapsed := min 65535 (s.st.elapsed + 1), correction := 0 } }) ∧
      (∀ c, s.st.phase = .counting c → s.st.correction = 0 → 2 ≤ s.st.remaining →
        t = { s with st := { s.st with elapsed := min 65535 (s.st.elapsed + 1), remaining := s.st.remaining - 1 } }) ∧
      (s.st.phase = .counting .running ∨ s.st.phase = .paused .running ∨ s.st.correction < 0 → s.st.phase ≠ .idle →
        s.st.correction ≠ 0 → 0 < sum →
        t = { s with st := { s.st with elapsed := min 65535 (s.st.elapsed + 1), remaining := (min 4095 sum).toNat,
                                       correction := 0 } }) ∧
      (∀ o, s.st.phase = .counting .grace ∨ s.st.phase = .paused .grace → 0 < s.st.correction → 0 < sum →
        s.seat = .warned o → s.flags.restartPending = false →
        t.seat = .live o ∧ t.st = { s.st with
          elapsed := min 65535 (s.st.elapsed + 1), remaining := (min 4095 sum).toNat, correction := 0,
          phase := if s.st.phase = .counting .grace then .counting .running else .paused .running } ∧
        t.sq = (if s.flying .hold then { s.sq with holdHeld := true }
                else { s.sq with hold := some (s.sq.hold.getD 0) }) ∧
        t.pp.events = enqueueEvent s.viewTicks s.pp.reading s.pp.events (.live o.lane))

/-- SPEECH_EXPIRY (R128, R138, R144): the first expiry of a speech with grace warns it into its grace; an expiry without
grace, or of the grace, makes the seat yield with TIME. A speech tick at which the expiry is due is that expiry, with the
elapsed time counted (log entry 8). -/
def Obligations.SpeechExpiryWarnsOrYields : Prop :=
  ∀ (c : Counted) (o : OwnLane) (s : State), s.Ready → s.st.speaking = true → s.flags.restartPending = false →
    (s.st.phase = .counting c ∧ (s.st.correction = 0 ∧ s.st.remaining ≤ 1 ∨
        s.st.correction ≠ 0 ∧ (s.st.remaining : Int) + s.st.correction ≤ 0) ∨
      s.st.phase = .paused c ∧ s.st.correction ≠ 0 ∧ (s.st.remaining : Int) + s.st.correction ≤ 0) →
    Gives .speechExpiry s fun t =>
      (c = .running → 0 < s.st.speechGrace → s.seat = .live o →
        t.seat = .warned o ∧
        t.st = { s.st with correction := 0, remaining := s.st.speechGrace,
                           phase := if s.st.phase = .counting c then .counting .grace else .paused .grace } ∧
        t.sq = (if s.flying .hold then { s.sq with holdHeld := true }
                else { s.sq with hold := some (s.sq.hold.getD 0) }) ∧
        t.pp.events = enqueueEvent s.viewTicks s.pp.reading s.pp.events (.warned o.lane)) ∧
      (c = .grace ∨ s.st.speechGrace = 0 → s.seat.speaking? = some o → s.flying .floor = false →
        t = { s with
          seat := .yielding o .time
          sq := { s.sq with floor := some { content := .yield o.lane .time, count := 0 } }
          gc := { s.gc with gateDelay := .stopped }
          st := { s.st with lastSpeech := s.st.elapsed, speaking := false, phase := .idle, remaining := 0,
                            speechGrace := 0, correction := 0, elapsed := 0 } }) ∧
      exec .speechTick s = exec .speechExpiry { s with st := { s.st with elapsed := min 65535 (s.st.elapsed + 1) } }

/-! ## Voice and audio -/

/-- LEVEL_SAMPLE (R148): how the envelope moves toward x × 256: by a quarter up, by a sixty-fourth down, at least 1, never
past it, within its range, and it reaches a steady level exactly; the threshold stays in its range. -/
def Obligations.EnvelopeMovesTowardTheSample : Prop :=
  ∀ (x : BitVec 8) (s : State), s.Ready →
    Gives (.levelSample x) s fun t =>
      let e := s.vu.envelope
      let target := x.toNat * 256
      t.vu.envelope = (if e < target then e + max 1 ((target - e) / 4)
                       else if target < e then e - max 1 ((e - target) / 64) else e) ∧
      (e ≤ target → e ≤ t.vu.envelope ∧ t.vu.envelope ≤ target) ∧
      (target ≤ e → target ≤ t.vu.envelope ∧ t.vu.envelope ≤ e) ∧
      (e < target → target - e ≤ 3 → t.vu.envelope = e + 1) ∧
      (target < e → e - target ≤ 63 → t.vu.envelope = e - 1) ∧
      (e ≤ 65280 → t.vu.envelope ≤ 65280 ∧ t.level ≤ 255) ∧
      (1 ≤ s.vu.threshold → s.vu.threshold ≤ 255 → 1 ≤ t.vu.threshold ∧ t.vu.threshold ≤ 255) ∧
      (t.vu.envelope = target → t.level = x.toNat) ∧
      ∃ n, (fun v => stepEnvelope v x.toNat)^[n] e = target

/-- LEVEL_SAMPLE (R147, R149 to R152, R155): how a sample moves the two counters: by the level after it, against the two
thresholds. The sample at which a counter reaches its end from below is that completion: without a trim it does, on the envelope
after it, what ATTACK_COMPLETION or RELEASE_COMPLETION does (log entry 8), and a sample without a completion changes nothing but
the Voice Unit's record. A running trim takes the level of every sample, and the sample that brings its count to 2048 sets the
threshold and posts TRIM_DONE; no attack is reported while it runs. -/
def Obligations.SampleMovesTheDetectorCounters : Prop :=
  ∀ (x : BitVec 8) (s : State), s.Ready → s.VoiceLaw →
    Gives (.levelSample x) s fun t =>
      t.level = t.vu.envelope / 256 ∧
      (s.flags.cough = true → t.vu.attack = 0 ∧ t.vu.release = 0 ∧ t.vu.voiced = s.vu.voiced ∧ t.seat = s.seat) ∧
      (s.flags.cough = false →
        (s.vu.threshold ≤ t.level → t.vu.attack = min 40 (s.vu.attack + 1) ∧ t.vu.release = 0) ∧
        (max 1 (s.vu.threshold - 6) ≤ t.level → t.level < s.vu.threshold →
          t.vu.attack = 0 ∧ t.vu.release = 0 ∧ t.vu.voiced = s.vu.voiced ∧ t.seat = s.seat) ∧
        (t.level < max 1 (s.vu.threshold - 6) →
          t.vu.attack = 0 ∧ t.vu.release = min s.prof.releaseHold (s.vu.release + 1))) ∧
      (let moved : State := { s with vu := { s.vu with envelope := t.vu.envelope } }
       let attacks : Prop := s.flags.cough = false ∧ s.vu.threshold ≤ t.level ∧ s.vu.attack = 39
       let releases : Prop := s.flags.cough = false ∧ t.level < max 1 (s.vu.threshold - 6) ∧
         s.vu.release + 1 = s.prof.releaseHold
       t.vu.voiced = (if attacks then true else if releases then false else s.vu.voiced) ∧
       (attacks → s.vu.trim = none → exec (.levelSample x) s = exec .attackCompletion moved) ∧
       (releases → s.vu.trim = none → exec (.levelSample x) s = exec .releaseCompletion moved) ∧
       (¬ releases → ¬ attacks ∨ s.vu.voiced = true → s.vu.trim = none → t = { s with vu := t.vu }) ∧
       (s.vu.trim = none → t.vu.trim = none ∧ t.vu.threshold = s.vu.threshold) ∧
       ∀ tr, s.vu.trim = some tr →
         (tr.count < 2047 →
           t.vu.trim = some { count := tr.count + 1, sum := tr.sum + t.level } ∧ t.vu.threshold = s.vu.threshold ∧
           t.pp = s.pp) ∧
         (tr.count = 2047 →
           let th := min 255 ((tr.sum + t.level) / 2048 + s.prof.trimMargin)
           t.vu.trim = none ∧ t.vu.threshold = th ∧ s.Posts t [.trimDone th]) ∧
         (¬ releases → t.seat = s.seat ∧ t.sq = s.sq ∧ t.st = s.st ∧ t.flash = s.flash) ∧
         (releases → ∀ o, s.seat.speaking? = some o → o.tookBy = .voice → t.seat = .yielding o .voice))

/-- ATTACK_COMPLETION and RELEASE_COMPLETION (R111, R114, R128, R150, R152): a completed attack in QUIET makes the detector
VOICED, and at an IDLE delegate in VOICE it takes the lowest FREE lane when there is room; an attack that is not reported, or
finds no room, takes nothing. A completed release makes the detector QUIET, and a seat that took its lane by voice, in any mode,
yields it with VOICE; every other seat goes on. At an IDLE PRIORITY seat in VOICE the attack takes a FREE lane, or displaces the
oldest DELEGATE lane, or is refused with NO_LANE. Both are the model's own steps of a sample (log entry 8). -/
def Obligations.VoiceCompletionsTakeAndYieldTheLane : Prop :=
  ∀ (s : State), s.Ready → s.flags.cough = false →
    (s.vu.attack = 39 → s.vu.voiced = false →
      s.flags.restartPending = false →
      Gives .attackCompletion s fun t =>
        t.vu = { s.vu with attack := 40, release := 0, voiced := true } ∧
        (s.role = .delegate → s.order.mode = .voice → s.vu.trim = none → s.seat = .idle →
          match s.freeLanes with
          | lane :: _ =>
            if s.delegateLanes < s.order.laneLimit then
              t.seat = .taking { kind := .voice, lane := lane, key := 0, displace := false, muting := false,
                                 mode := .voice, grantor := 0 } ∧
              (s.flying .floor = false → t.sq = { s.sq with floor := some { content := .take, count := 0 } })
            else t = { s with vu := t.vu, flash := .running 2000 }
          | [] => t = { s with vu := t.vu, flash := .running 2000 }) ∧
        (s.role = .priority → s.order.mode = .voice → s.vu.trim = none → s.seat = .idle →
          let takes (lane : Fin 8) (displace : Bool) : Prop :=
            t.seat = .taking { kind := .voice, lane := lane, key := 0, displace := displace, muting := false,
                               mode := .voice, grantor := 0 } ∧
            (s.flying .floor = false → t.sq = { s.sq with floor := some { content := .take, count := 0 } })
          match s.freeLanes, s.oldestLane [.delegate] with
          | lane :: _, _ => takes lane false
          | [], some i => takes i true
          | [], none => t = State.posting { s with vu := t.vu, flash := .running 2000 } (.askRefused .noLane)) ∧
        (s.role = .chair ∨ s.order.mode ≠ .voice ∨ s.vu.trim ≠ none ∨ s.seat ≠ .idle → t = { s with vu := t.vu })) ∧
    (s.vu.release + 1 = s.prof.releaseHold →
      Gives .releaseCompletion s fun t =>
        t.vu = { s.vu with attack := 0, release := s.prof.releaseHold, voiced := false } ∧
        (∀ o, s.seat.speaking? = some o → o.tookBy = .voice →
          t.seat = .yielding o .voice ∧ t.gateOpen = false ∧
          (s.flying .floor = false →
            t.sq = { s.sq with floor := some { content := .yield o.lane .voice, count := 0 } })) ∧
        ((∀ o, s.seat.speaking? = some o → o.tookBy ≠ .voice) → t = { s with vu := t.vu }))

/-- TRIM_COMPLETION, GATE_DELAY_EXPIRY and DUCK_TAIL_EXPIRY (R155, R158, R159): the sample that brings the count to 2048
sets the threshold to the mean level plus the margin, at most 255, and posts TRIM_DONE; the gate delay's end opens GATE when
the seat speaks, the cough key is up and no mute binds the seat; the duck tail's end releases SPK_MUTE. TRIM_COMPLETION is
the model's own step of a sample (log entry 8). -/
def Obligations.TrimAndGateTimersComplete : Prop :=
  ∀ (tr : Trim) (ms : Nat) (s : State), s.Ready →
    (s.vu.trim = some tr → tr.count = 2047 →
      Gives .trimCompletion s fun t =>
        let th := min 255 ((tr.sum + s.vu.envelope / 256) / 2048 + s.prof.trimMargin)
        t = State.posting { s with vu := { s.vu with threshold := th, trim := none } } (.trimDone th) ∧ 12 ≤ th) ∧
    (s.gc.gateDelay = .running ms →
      Gives .gateDelayExpiry s fun t =>
        t = { s with gc := { s.gc with gateDelay := .expired } } ∧
        t.gateOpen = (s.seat.speaking?.isSome && !s.flags.cough && (decide (s.role = .chair) || s.mutes.isEmpty))) ∧
    (s.gc.duckTail = .running ms →
      Gives .duckTailExpiry s fun t => t = { s with gc := { s.gc with duckTail := .stopped, spkMute := false } })

/-! ## Keys -/

/-- R71: the oldest lane within a set of standings: none without a candidate, and otherwise the candidate of the greatest
age, on equal age the lowest lane number; a candidate is a lane HELD with a standing of the set by another address. -/
def Obligations.OldestLaneIsTheLongestHeld : Prop :=
  ∀ (standings : List Role) (s : State),
    (s.oldestLane standings = none ↔
      ∀ i : Fin 8, ∀ r, s.lanes[i] = .held r → r.standing ∈ standings → r.holder = s.addr) ∧
    ∀ i : Fin 8, s.oldestLane standings = some i →
      ∃ r, s.lanes[i] = .held r ∧ r.standing ∈ standings ∧ r.holder ≠ s.addr ∧
        ∀ (j : Fin 8) (q : HeldLane), s.lanes[j] = .held q → q.standing ∈ standings → q.holder ≠ s.addr →
          q.age < r.age ∨ (q.age = r.age ∧ i ≤ j)

/-- R110, R111: the decision of a TALK press, by standing and mode. -/
def Obligations.TalkPressDecidesByStandingAndMode : Prop :=
  ∀ (s : State),
    (s.role = .delegate →
      (s.order.mode = .openFloor → s.window = [] → s.delegateLanes < s.order.laneLimit →
        ∀ lane rest, s.freeLanes = lane :: rest → talkDecision s = .take lane false) ∧
      (s.order.mode = .openFloor → (s.window ≠ [] ∨ s.order.laneLimit ≤ s.delegateLanes ∨ s.freeLanes = []) →
        talkDecision s = .ask) ∧
      (s.order.mode = .override → s.delegateLanes < s.order.laneLimit →
        ∀ lane rest, s.freeLanes = lane :: rest → talkDecision s = .take lane false) ∧
      (s.order.mode = .override → (s.order.laneLimit ≤ s.delegateLanes ∨ s.freeLanes = []) →
        talkDecision s = match s.oldestLane [.delegate] with | some i => .take i true | none => .noLane) ∧
      (s.order.mode = .moderated → talkDecision s = .ask)) ∧
    (s.role = .priority →
      (s.order.mode = .openFloor ∨ s.order.mode = .override →
        talkDecision s = match s.freeLanes, s.oldestLane [.delegate] with
          | lane :: _, _ => .take lane false
          | [], some i => .take i true
          | [], none => .noLane) ∧
      (s.order.mode = .moderated → talkDecision s = .ask)) ∧
    (s.role = .chair →
      talkDecision s = match s.freeLanes, s.oldestLane [.priority, .delegate] with
        | lane :: _, _ => .take lane false
        | [], some i => .take i true
        | [], none => .noLane)

/-- DEBOUNCE_EXPIRY and KEY (R112, R118, R119, R121, R164, R175, R177, R180): the debounced press of K1 reaches the seat as TALK
with cause KEY: by its decision in IDLE, taking a pending ASK or TAKE out of its slot in ASKING and TAKING and setting the cancel
latch while it is in flight (a press that finds the latch set is ignored, in ASKING by inference, log entry 31), leaving the line
in WAITING, giving up the lane in LIVE and WARNED. At a chair with priority held set it makes a take or a lane of the PRIORITY
key one of kind KEY instead, a TAKE in flight too and, read from R164, one whose latch is set (log entry 27). A panel press of K2
is CANCEL at a seat that is no chair: the same in ASKING, and nothing in TAKING. -/
def Obligations.DebouncedTalkActsByTheSeatState : Prop :=
  ∀ (ms : Nat) (s : State), s.Ready → s.role ≠ .listener → s.flags.restartPending = false →
    (s.key1.pin = true → s.key1.timer = .running ms → s.coughKey = false → s.flags.priorityHeld = false →
      s.vu.trim = none →
      Gives (.debounceExpiry .k1) s fun t =>
        let u : State := { s with key1 := { pin := true, pressed := true, timer := .stopped } }
        let latched : State := { u with flags := { s.flags with cancelLatch := some (s.flags.cancelLatch.getD .key) } }
        (s.sq.inFlight = none →
          match s.seat with
          | .idle =>
            match talkDecision s with
            | .take lane displace =>
              t = { u with
                seat := .taking { kind := .key, lane := lane, key := 0, displace := displace, muting := false,
                                  mode := s.order.mode, grantor := 0 }
                sq := { s.sq with floor := some { content := .take, count := 0 } } }
            | .ask =>
              if 65535 ≤ s.mark then t = State.posting { u with flash := .running 2000 } (.askRefused .saturated)
              else if s.order.capacity ≤ s.window.length then
                t = State.posting { u with flash := .running 2000 } (.askRefused .full)
              else t = { u with seat := .asking, ownAsk := .pending,
                                sq := { s.sq with floor := some { content := .ask, count := 0 } } }
            | .noLane => t = State.posting { u with flash := .running 2000 } (.askRefused .noLane)
            | .nothing => t = u
          | .asking =>
            s.ownAsk = .pending →
              t = State.posting
                { u with seat := .idle, ownAsk := .none, st := { s.st with waitMeter := 0 },
                         sq := { s.sq with floor := none } } (.askEnded .withdrawn)
          | .waiting =>
            match s.ownAsk with
            | .live ticket =>
              t = State.posting
                { u with seat := .idle, ownAsk := .none, st := { s.st with waitMeter := 0 },
                         sq := { s.sq with floor := some { content := .withdraw ticket .key, count := 0 } } }
                (.askEnded .withdrawn)
            | _ => True
          | .taking k =>
            t = if s.flags.cancelLatch ≠ none then u
                else { u with seat := if k.kind = .line ∨ k.kind = .grant then .waiting else .idle,
                              sq := { s.sq with floor := none } }
          | .live o | .warned o =>
            t.seat = .yielding o .key ∧
            t.sq = { s.sq with floor := some { content := .yield o.lane .key, count := 0 } } ∧ t.gateOpen = false ∧
            (s.st.speaking = true → t.st.speaking = false ∧ t.st.lastSpeech = s.st.elapsed)
          | .settling n => t = { u with flags := { s.flags with pendingPress := true } } ∧ t.seat = .settling n
          | .yielding _ _ => t = u
          | .listen => t = u) ∧
        (s.seat = .asking → s.askFlying = true → t = latched) ∧
        (∀ k, s.seat = .taking k → s.takeFlying = true → t = if s.flags.cancelLatch = none then latched else u)) ∧
    (s.key1.pin = true → s.key1.timer = .running ms → s.role = .chair → s.flags.priorityHeld = true → s.vu.trim = none →
      Gives (.debounceExpiry .k1) s fun t =>
        let u : State := { s with key1 := { pin := true, pressed := true, timer := .stopped } }
        (∀ k, s.seat = .taking k → k.kind = .priority → t = { u with seat := .taking { k with kind := .key } }) ∧
        (∀ k, s.seat = .taking k → k.kind = .key → s.takeFlying = true →
          t = { u with flags := { s.flags with cancelLatch := some (s.flags.cancelLatch.getD .key) } }) ∧
        (∀ k, s.seat = .taking k → k.kind = .key → s.sq.inFlight = none → s.flags.cancelLatch = none →
          t = { u with seat := .idle, sq := { s.sq with floor := none } }) ∧
        ∀ o, s.seat = .live o →
          (o.tookBy = .priority → t = { u with seat := .live { o with tookBy := .key } }) ∧
          (o.tookBy ≠ .priority → s.sq.inFlight = none →
            t.seat = .yielding o .key ∧ t.sq = { s.sq with floor := some { content := .yield o.lane .key, count := 0 } } ∧
            t.gateOpen = false)) ∧
    (s.isDelegateSeat = true →
      Gives (.panelKey 2 1) s fun t =>
        let u : State := s.answering 0x10 0 [] .nothing
        (s.seat = .asking → s.ownAsk = .pending → s.sq.inFlight = none →
          t = State.posting
            { u with seat := .idle, ownAsk := .none, st := { s.st with waitMeter := 0 },
                     sq := { s.sq with floor := none } } (.askEnded .withdrawn)) ∧
        (s.seat = .asking → s.askFlying = true →
          t = { u with flags := { s.flags with cancelLatch := some (s.flags.cancelLatch.getD .panel) } }) ∧
        (s.seat.isTaking = true → t = u))

/-- KEY (R118, R121, R156, R167, R168, R175, R181): a panel press is the same press with cause PANEL and leaves the debouncers
alone: TALK, like CANCEL, in WAITING withdraws; the cough key in VOICE sets and clears its flag, and outside VOICE a delegate's
releases do nothing; a chair's NEXT directs the head of the line or the oldest delegate; and a key or an action out of range is
BAD_ARG. A LISTENER's physical keys are debounced and do nothing more. -/
def Obligations.PanelKeyGivesThePressWithCausePanel : Prop :=
  ∀ (ticket ms : Nat) (s : State), s.Ready →
    (s.role = .listener → ∀ k : KeyId, (s.keyOf k).timer = .running ms →
      Gives (.debounceExpiry k) s fun t =>
        t = { s with key1 := t.key1, key2 := t.key2, key3 := t.key3 } ∧
        t.keyOf k = { pin := (s.keyOf k).pin, pressed := (s.keyOf k).pin, timer := .stopped } ∧
        ∀ j : KeyId, j ≠ k → t.keyOf j = s.keyOf j) ∧
    (s.flags.restartPending = false → s.seat.isSettling = false → s.seat ≠ .listen → s.vu.trim = none →
    (s.isDelegateSeat = true → s.order.mode ≠ .voice → s.seat = .waiting → s.ownAsk = .live ticket →
      s.sq.inFlight = none → ∀ key : Byte, key = 1 ∨ key = 2 →
      Gives (.panelKey key 1) s fun t =>
        t = State.posting
          { (s.answering 0x10 0 [] .nothing) with
            seat := .idle, ownAsk := .none, st := { s.st with waitMeter := 0 },
            sq := { s.sq with floor := some { content := .withdraw ticket .panel, count := 0 } } }
          (.askEnded .withdrawn)) ∧
    (s.isDelegateSeat = true → s.order.mode = .voice →
      (Gives (.panelKey 1 1) s fun t =>
        t = { (s.answering 0x10 0 [] .nothing) with
          flags := { s.flags with cough := true }, vu := { s.vu with attack := 0, release := 0 } }) ∧
      Gives (.panelKey 1 0) s fun t =>
        t = { (s.answering 0x10 0 [] .nothing) with flags := { s.flags with cough := false } }) ∧
    (s.role = .chair →
      Gives (.panelKey 3 1) s fun t =>
        let push (target : Nat) (action : BitVec 3) : State :=
          if 4 ≤ s.sq.direct.length then { (s.answering 0x10 0 [] .nothing) with flash := .running 2000 }
          else { (s.answering 0x10 0 [] .nothing) with
            sq := { s.sq with direct := s.sq.direct ++
              [{ content := { target := BitVec.ofNat 10 target, action := action, argument := 0 }, count := 0 }] } }
        if s.order.mode = .moderated then
          match s.window with
          | e :: _ => t = push e.asker 1
          | [] => t = { (s.answering 0x10 0 [] .nothing) with flash := .running 2000 }
        else
          match s.oldestLane [.delegate] with
          | some i => ∀ r, s.lanes[i] = .held r → t = push r.holder 0
          | none => t = { (s.answering 0x10 0 [] .nothing) with flash := .running 2000 }) ∧
    (s.isDelegateSeat = true → s.order.mode ≠ .voice → ∀ key : Byte, 1 ≤ key.toNat → key.toNat ≤ 3 →
      Gives (.panelKey key 0) s fun t => t = s.answering 0x10 0 [] .nothing) ∧
    ∀ key action : Byte, key.toNat = 0 ∨ 3 < key.toNat ∨ 1 < action.toNat →
      Gives (.panelKey key action) s fun t => t = s.answering 0x10 3 [] .nothing)

/-- R162 to R166: a chair's PRIORITY key: the press takes a lane muting in IDLE, or is refused with NO_LANE, sets the muting flag
of a KEY take that is not in flight, and mutes the lane it holds; the release gives up a take of the PRIORITY key, by the cancel
latch while it is in flight (a latch already set keeps its cause, the model's choice, log entry 30), clears the muting flag of a
KEY take that is not in flight, yields a lane that PRIORITY took, with PRIORITY_END, and unmutes any other. In every other state
both change priority held alone. -/
def Obligations.PriorityKeyMutesTheFloor : Prop :=
  ∀ (o : OwnLane) (k : IntendedTake) (s : State), s.Ready → s.role = .chair → s.flags.restartPending = false →
    s.vu.trim = none →
    (s.flags.priorityHeld = false →
      Gives (.panelKey 2 1) s fun t =>
        let u : State := { (s.answering 0x10 0 [] .nothing) with flags := { s.flags with priorityHeld := true } }
        (s.seat = .idle → s.sq.inFlight = none → ∀ lane displace, chairDecision s = .take lane displace →
          t = { u with
            seat := .taking { kind := .priority, lane := lane, key := 0, displace := displace, muting := true,
                              mode := s.order.mode, grantor := 0 }
            sq := { s.sq with floor := some { content := .take, count := 0 } } }) ∧
        (s.seat = .idle → chairDecision s = .noLane →
          t = State.posting { u with flash := .running 2000 } (.askRefused .noLane)) ∧
        (s.seat = .taking k →
          t = if k.kind = .key ∧ s.takeFlying = false then { u with seat := .taking { k with muting := true } } else u) ∧
        (s.seat = .live o → s.sq.inFlight = none →
          t = { u with seat := .live { o with muting := true }, sq := { s.sq with hold := some (s.sq.hold.getD 0) } }) ∧
        (∀ reason, s.seat = .yielding o reason → t = u)) ∧
    (s.flags.priorityHeld = true →
      Gives (.panelKey 2 0) s fun t =>
        let u : State := { (s.answering 0x10 0 [] .nothing) with flags := { s.flags with priorityHeld := false } }
        (s.seat = .taking k →
          (k.kind = .priority → s.takeFlying = false →
            t = { u with seat := .idle, sq := if s.flying .floor then { s.sq with floorHeld := none }
                                              else { s.sq with floor := none } }) ∧
          (k.kind = .priority → s.takeFlying = true →
            t = { u with flags := { s.flags with
              priorityHeld := false, cancelLatch := some (s.flags.cancelLatch.getD .panel) } }) ∧
          (k.kind = .key →
            t = if s.takeFlying then u else { u with seat := .taking { k with muting := false } })) ∧
        (s.seat = .live o → s.sq.inFlight = none →
          (o.tookBy = .priority →
            t.seat = .yielding o .priorityEnd ∧ t.flags = { s.flags with priorityHeld := false } ∧
            t.sq = { s.sq with floor := some { content := .yield o.lane .priorityEnd, count := 0 } }) ∧
          (o.tookBy ≠ .priority →
            t = { u with seat := .live { o with muting := false }, sq := { s.sq with hold := some (s.sq.hold.getD 0) } })) ∧
        (s.seat = .idle ∨ (∃ reason, s.seat = .yielding o reason) → t = u))

/-- KEY_LEVEL_CHANGE, DEBOUNCE_EXPIRY and REFUSAL_FLASH_END (R175 to R178): a key's stability timer runs while its pin disagrees
with its debounced state, reloaded at each change and stopped when they agree; at its expiry the debounced state takes the pin's
level, and no other key moves; the flash ends. The lamps: during a clash both BLINK_FAST, and in SETTLING and in a LISTEN without
a clash both OFF. Otherwise RING is BLINK_SLOW in LIVE and WARNED at a seat that is no chair while mute is active, else ON in
LIVE and BLINK_FAST in WARNED, and OFF in every other state; and REQ is BLINK_FAST while a flash runs, and otherwise ON in
ASKING, BLINK_SLOW in WAITING at rank 0, ON in WAITING behind another ask, and OFF. -/
def Obligations.KeyLevelsRunTheStabilityTimer : Prop :=
  ∀ (k : KeyId) (level : Bool) (s : State), s.Ready →
    ((s.keyOf k).pin ≠ level →
      Gives (.keyLevelChange k level) s fun t =>
        t.keyOf k = { pin := level, pressed := (s.keyOf k).pressed,
                      timer := if level = (s.keyOf k).pressed then .stopped else .running s.prof.debounce } ∧
        t = { s with key1 := t.key1, key2 := t.key2, key3 := t.key3 } ∧
        ∀ j : KeyId, j ≠ k → t.keyOf j = s.keyOf j) ∧
    ((s.keyOf k).timer ≠ .stopped →
      Gives (.debounceExpiry k) s fun t =>
        t.keyOf k = { pin := (s.keyOf k).pin, pressed := (s.keyOf k).pin, timer := .stopped } ∧
        ∀ j : KeyId, j ≠ k → t.keyOf j = s.keyOf j) ∧
    (Gives .refusalFlashEnd s fun t => t = { s with flash := .stopped }) ∧
    (s.flags.clash = true → s.ring = .blinkFast ∧ s.req = .blinkFast) ∧
    (s.flags.clash = false → (s.seat.isSettling = true ∨ s.seat = .listen) → s.ring = .off ∧ s.req = .off) ∧
    (s.flags.clash = false →
      (∀ o, s.seat = .live o ∨ s.seat = .warned o → s.mutes ≠ [] → s.role ≠ .chair → s.ring = .blinkSlow) ∧
      (∀ o, s.seat = .live o → (s.mutes = [] ∨ s.role = .chair) → s.ring = .on) ∧
      (∀ o, s.seat = .warned o → (s.mutes = [] ∨ s.role = .chair) → s.ring = .blinkFast) ∧
      (s.seat.speaking? = none → s.ring = .off)) ∧
    (s.flags.clash = false → s.seat.isSettling = false → s.seat ≠ .listen →
      (s.flash ≠ .stopped → s.req = .blinkFast) ∧
      (s.flash = .stopped →
        (s.seat = .asking → s.req = .on) ∧
        (∀ ticket, s.ownAsk = .live ticket → s.seat = .waiting →
          ((∀ e ∈ s.window, pairBefore e.ticket e.asker ticket s.addr = false) → s.req = .blinkSlow) ∧
          ((∃ e ∈ s.window, pairBefore e.ticket e.asker ticket s.addr = true) → s.req = .on)) ∧
        (s.seat ≠ .asking → s.seat ≠ .waiting → s.req = .off)))

/-! ## The panel -/

/-- READ_STATUS, READ_LANES, READ_LINE, TAKE_EVENT and READ_FEED (R180, R182 to R184, R186, R187): each is answered OK in every
seat state with its record, and changes nothing but the transaction, the head's mark and the latch. Every field of every
record, by its place: two-byte fields have their more significant byte first, a value that is absent shows its code, and a FREE
lane and a record of nothing read as zeros. -/
def Obligations.ReadsAnswerWithTheirRecords : Prop :=
  ∀ (s : State), s.Ready →
    (Gives .readStatus s fun t =>
      t = { s with pp := { (s.answering 0x01 0 s.statusRecord
        (if s.pp.overflow then .clearOverflow else .nothing)).pp with overflowSince := false } }) ∧
    (Gives .readLanes s fun t => t = s.answering 0x02 0 s.lanesRecord .nothing) ∧
    (Gives .readLine s fun t => t = s.answering 0x03 0 s.lineRecord .nothing) ∧
    (Gives .takeEvent s fun t =>
      t = { s with pp := { (s.answering 0x04 0 s.eventRecord
        (if s.pp.events = [] then .nothing else .removeEvent)).pp with reading := decide (s.pp.events ≠ []) } }) ∧
    (Gives .readFeed s fun t =>
      t = s.answering 0x05 0 s.feedRecord (if s.pp.feed = [] then .nothing else .removeFeed)) ∧
    (s.statusRecord.length = 36 ∧ s.lanesRecord.length = 80 ∧ s.lineRecord.length = 1 + 6 * s.window.length ∧
      s.eventRecord.length = 5 ∧ s.feedRecord.length = 17) ∧
    (s.addr ≤ 1023 → s.WindowLaw → s.order.InRange → s.st.InRange → s.VoiceLaw → s.PanelLaw →
      let r := s.statusRecord
      word r 0 = s.addr ∧
      octet r 2 = (match s.role with | .chair => 0 | .priority => 1 | .delegate => 2 | .listener => 3) ∧
      octet r 3 = (match s.seat with
        | .settling _ => 0 | .idle => 1 | .asking => 2 | .waiting => 3 | .taking _ => 4 | .live _ => 5 | .warned _ => 6
        | .yielding _ _ => 7 | .listen => 8) ∧
      octet r 4 = (match s.seat.own? with | some o => o.lane.val | none => 255) ∧
      octet r 5 = (match s.seat.own? with
        | some o => (match o.tookBy with | .key => 0 | .line => 1 | .grant => 2 | .voice => 3 | .priority => 4)
        | none => 255) ∧
      (match s.ownAsk with
        | .live ticket => (ticket ≤ 65535 → word r 6 = ticket) ∧ octet r 8 = s.rankOf ticket
        | _ => word r 6 = 0 ∧ octet r 8 = 255) ∧
      octet r 9 = (match s.st.phase with
        | .idle => 0 | .counting .running => 1 | .counting .grace => 2 | .paused _ => 3) ∧
      (word r 10 = s.st.remaining ∧ word r 12 = signedWord s.st.correction ∧ word r 14 = s.st.elapsed ∧
        word r 16 = s.st.waitMeter ∧ word r 18 = s.st.lastWait ∧ word r 20 = s.st.lastSpeech) ∧
      (octet r 22 = s.vu.envelope / 256 ∧ octet r 23 = s.vu.threshold) ∧
      octet r 24 = (match s.order.mode with | .openFloor => 0 | .override => 1 | .moderated => 2 | .voice => 3) ∧
      (octet r 25 = s.order.laneLimit ∧ octet r 26 = s.order.allowance ∧ octet r 27 = s.order.grace ∧
        octet r 28 = s.order.capacity ∧ octet r 29 = s.order.sequence.toNat ∧ word r 30 = s.order.source ∧
        octet r 32 = (match s.order.origin with | .profile => 0 | .line => 1)) ∧
      ((octet r 33).testBit 0 = decide (s.mutes ≠ []) ∧ (octet r 33).testBit 1 = decide (s.li.status = .stuck) ∧
        (octet r 33).testBit 2 = s.flags.clash ∧ (octet r 33).testBit 3 = s.pp.overflow ∧
        (octet r 33).testBit 4 = s.vu.trim.isSome ∧
        (octet r 33).testBit 5 = decide (s.addr = 0 ∨ 1000 < s.addr) ∧ (octet r 33).testBit 6 = s.pp.feedOn ∧
        (octet r 33).testBit 7 = false) ∧
      octet r 34 = s.pp.events.length ∧ octet r 35 = s.pp.feed.length) ∧
    (∀ i : Fin 8, s.lanes[i].InRange →
      let r := s.lanesRecord.drop (10 * i.val)
      match s.lanes[i] with
      | .free => r.take 10 = List.replicate 10 0
      | .held x =>
        octet r 0 = 1 ∧ word r 1 = x.holder ∧
        octet r 3 = (match x.standing with | .chair => 0 | .priority => 1 | .delegate => 2 | .listener => 3) ∧
        word r 4 = x.ticket ∧ word r 6 = x.age ∧ octet r 8 = x.silence ∧ (octet r 9).testBit 0 = x.muting ∧
        (octet r 9).testBit 1 = x.warned ∧ octet r 9 ≤ 3) ∧
    (s.WindowLaw → octet s.lineRecord 0 = s.window.length ∧
      ∀ (j : Nat) (e : Entry), s.window[j]? = some e → e.asker ≤ 1000 →
        let r := s.lineRecord.drop (1 + 6 * j)
        word r 0 = e.asker ∧ word r 2 = e.ticket ∧
        octet r 4 = (match e.standing with | .chair => 0 | .priority => 1 | .delegate => 2 | .listener => 3) ∧
        octet r 5 = e.silence) ∧
    (match s.pp.events with
      | [] => s.eventRecord = [0, 0, 0, 0, 0]
      | x :: _ =>
        let r := s.eventRecord
        let shows (kind argument : Nat) : Prop := octet r 0 = kind ∧ (argument ≤ 65535 → word r 1 = argument)
        (x.stamp ≤ 65535 → word r 3 = x.stamp) ∧
        match x.event with
        | .laneChanged lane => shows 1 lane.val
        | .lineChanged => shows 2 0
        | .orderChanged source => shows 3 source
        | .muteChanged active => shows 4 (if active then 1 else 0)
        | .live lane => shows 5 lane.val
        | .warned lane => shows 6 lane.val
        | .cut lane => shows 7 lane.val
        | .displaced taker => shows 8 taker
        | .laneLost a => shows 9 a
        | .askLive ticket => shows 10 ticket
        | .askEnded reason => shows 11 (match reason with
          | .withdrawn => 0 | .taken => 1 | .dropped => 2 | .cleared => 3 | .mode => 4 | .restart => 5 | .clash => 6)
        | .askRefused reason => shows 12 (match reason with | .noLane => 0 | .full => 1 | .saturated => 2 | .send => 3)
        | .grantNoLane chair => shows 13 chair
        | .sendFailed cls => shows 14 cls
        | .lineStuck => shows 15 0
        | .lineClear => shows 16 0
        | .addressClash own => shows 17 own
        | .trimDone threshold => shows 18 threshold
        | .trimAborted reason => shows 19 (match reason with | .key => 0 | .taking => 1 | .restart => 2)
        | .restarted => shows 20 0
        | .overrun => shows 21 0) ∧
    (s.pp.feed.length ≤ 16 → octet s.feedRecord 0 = s.pp.feed.length ∧
      match s.pp.feed with
      | [] => s.feedRecord.drop 1 = List.replicate 16 0
      | x :: _ =>
        let r := s.feedRecord.drop 1
        let b := r.drop 7
        let zeros (n : Nat) : Prop := b.drop n = List.replicate (9 - n) 0
        octet r 1 = (match x.frame.head.standing with | .chair => 0 | .priority => 1 | .delegate => 2 | .listener => 3) ∧
        word r 2 = x.frame.head.key.toNat ∧ word r 4 = x.frame.head.sender.toNat ∧
        octet r 6 = (if x.own then 1 else 0) ∧
        match x.frame.body with
        | .order source sequence mode l a g c clear =>
          octet r 0 = 0 ∧ word b 0 = source.toNat ∧ octet b 2 = sequence.toNat ∧ octet b 3 = mode.toNat ∧
          octet b 4 = l.toNat ∧ octet b 5 = a.toNat ∧ octet b 6 = g.toNat ∧ octet b 7 = c.toNat ∧
          octet b 8 = (if clear then 1 else 0)
        | .direct target action argument =>
          octet r 0 = 1 ∧ word b 0 = target.toNat ∧ octet b 2 = action.toNat ∧ word b 3 = signedWord argument.toInt ∧
          zeros 5
        | .yield lane reason => octet r 0 = 2 ∧ octet b 0 = lane.toNat ∧ octet b 1 = reason.toNat ∧ zeros 2
        | .take lane displace muting =>
          octet r 0 = 3 ∧ octet b 0 = lane.toNat ∧ octet b 1 = (if displace then 1 else 0) ∧
          octet b 2 = (if muting then 1 else 0) ∧ zeros 3
        | .withdraw reason => octet r 0 = 4 ∧ octet b 0 = reason.toNat ∧ zeros 1
        | .ask refresh => octet r 0 = 5 ∧ octet b 0 = (if refresh then 1 else 0) ∧ zeros 1
        | .hold elapsed muting warned =>
          octet r 0 = 6 ∧ word b 0 = elapsed.toNat ∧ octet b 2 = (if muting then 1 else 0) ∧
          octet b 3 = (if warned then 1 else 0) ∧ zeros 4)

/-- R180: BUSY in the wait of a restart comes before LISTEN_ONLY, and that before SETTLING, for the commands each is given
for; a refused command changes nothing but the transaction. -/
def Obligations.PanelRefusalsComeInOrder : Prop :=
  ∀ (c : Instr) (code : Byte) (inListen inSettling : Bool) (s : State), s.Ready →
    (match c with
      | .panelKey _ _ => code = 0x10 ∧ inListen = true ∧ inSettling = true
      | .panelTrim => code = 0x11 ∧ inListen = false ∧ inSettling = false
      | .panelRestart => code = 0x12 ∧ inListen = true ∧ inSettling = false
      | .panelFeed _ => code = 0x13 ∧ inListen = false ∧ inSettling = false
      | .setOrder _ _ _ _ _ _ => code = 0x20 ∧ inListen = true ∧ inSettling = true
      | .sendDirect _ _ _ => code = 0x21 ∧ inListen = true ∧ inSettling = true
      | _ => False) →
    (s.flags.restartPending = true → Gives c s fun t => t = s.answering code 1 [] .nothing) ∧
    (s.flags.restartPending = false →
      (inListen = true → s.seat = .listen → Gives c s fun t => t = s.answering code 5 [] .nothing) ∧
      (inSettling = true → s.seat.isSettling = true → Gives c s fun t => t = s.answering code 4 [] .nothing))

/-- TRIM and FEED (R154, R181): a trim starts with count and sum 0, or is answered BUSY while the seat takes, speaks or
yields or a trim runs; FEED switches the feed, and any argument but 0 and 1 is BAD_ARG. -/
def Obligations.TrimStartsAndFeedSwitches : Prop :=
  ∀ (arg : Byte) (s : State), s.Ready → s.flags.restartPending = false →
    (Gives .panelTrim s fun t =>
      match s.seat, s.vu.trim with
      | .settling _, none | .idle, none | .asking, none | .waiting, none | .listen, none =>
        t = { (s.answering 0x11 0 [] .nothing) with vu := { s.vu with trim := some { count := 0, sum := 0 } } }
      | _, _ => t = s.answering 0x11 1 [] .nothing) ∧
    Gives (.panelFeed arg) s fun t =>
      if arg.toNat ≤ 1 then
        t = { s with pp := { (s.answering 0x13 0 [] .nothing).pp with feedOn := decide (arg.toNat = 1) } }
      else t = s.answering 0x13 3 [] .nothing

/-- SET_ORDER and SEND_DIRECT (R29, R37, R47, R102, R170, R171): their checks, in order. SET_ORDER places a new order in the
ORDER slot, or behind the frame of that slot in flight; SEND_DIRECT pushes a DIRECT at the tail of the FIFO, whose argument
is 0 unless it is an EXTEND. -/
def Obligations.ChairCommandsPlaceTheirFrames : Prop :=
  ∀ (mode l a g c clear : Byte) (target : BitVec 16) (action : Byte) (argument : BitVec 16) (s : State), s.Ready →
    s.flags.restartPending = false → s.seat.isSettling = false → s.seat ≠ .listen →
    (Gives (.setOrder mode l a g c clear) s fun t =>
      if s.role ≠ .chair then t = s.answering 0x20 2 [] .nothing
      else if mode.toNat ≤ 3 ∧ (1 ≤ l.toNat ∧ l.toNat ≤ 8) ∧ g.toNat ≤ 60 ∧ (1 ≤ c.toNat ∧ c.toNat ≤ 32) ∧
          clear.toNat ≤ 1 then
        let o : OrderFields := { mode := modeOfCode mode.toNat, laneLimit := l.toNat, allowance := a.toNat,
                                 grace := g.toNat, capacity := c.toNat, clear := decide (clear.toNat = 1) }
        t = { (s.answering 0x20 0 [] .nothing) with
          sq := if s.flying .order then { s.sq with nextOrder := some (.fixed o) }
                else { s.sq with order := some { content := .new (.fixed o), count := 0 } } }
      else t = s.answering 0x20 3 [] .nothing) ∧
    Gives (.sendDirect target action argument) s fun t =>
      if s.role ≠ .chair then t = s.answering 0x21 2 [] .nothing
      else if 1000 < target.toNat ∨ 3 < action.toNat ∨ (action.toNat = 1 ∧ target.toNat = 0) ∨
          (action.toNat = 2 ∧ (argument.toInt < -4095 ∨ 4095 < argument.toInt)) then
        t = s.answering 0x21 3 [] .nothing
      else if 4 ≤ s.sq.direct.length then t = s.answering 0x21 1 [] .nothing
      else
        ∃ d : DirectFrame, d.target.toNat = target.toNat ∧ d.action.toNat = action.toNat ∧
          d.argument.toInt = (if action.toNat = 2 then argument.toInt else 0) ∧
          t = { (s.answering 0x21 0 [] .nothing) with
            sq := { s.sq with direct := s.sq.direct ++ [{ content := d, count := 0 }] } }

/-- RESTART and RESTART_COMPLETION (R131 to R133, R50, R73, R94, R105, R146, R160, R161, R189): a LIVE or WARNED seat leaves its
lane with YIELD(RESTART), as does a YIELDING one whose YIELD is not in flight; a WAITING one, or one TAKING from the line, leaves
the line with WITHDRAW(RESTART); an ASK or TAKE in flight is cancelled; and every frame that is not in flight leaves the queue.
In SETTLING, in IDLE, and in ASKING and TAKING with nothing in flight and no place in the line, the restart completes at once;
otherwise it completes with the restart frame, sent or dropped: the floor state takes its reset values, RESTARTED is the only
event, and the Line Interface, the threshold, the keys and the feed are kept. RESTART_COMPLETION as a step of its own is the
model's (log entry 8): every step that brings its conditions about completes the restart itself. That what other blocks post at
the instant of the completion is emptied with the queue (log entry 29), and that the count of R18 stands as it was after a
restart frame dropped at its fourth objection (log entry 16), are the model's choices. -/
def Obligations.RestartLeavesTheFloorAndResets : Prop :=
  ∀ (o : OwnLane) (ticket : Nat) (fl : Flight) (s : State), s.Ready →
    (s.flags.restartPending = false → s.vu.trim = none →
      Gives .panelRestart s fun t =>
        let flags : SeatFlags := { s.flags with restartPending := true, priorityHeld := false }
        let emptied : SendQ :=
          { s.sq with order := none, nextOrder := none, direct := [], floor := none, floorHeld := none, askref := none,
                      askrefHeld := false, hold := none, holdHeld := false }
        (s.sq.inFlight = none →
          (s.seat = .live o ∨ s.seat = .warned o →
            t.seat = .yielding o .restart ∧ t.flags = flags ∧
            t.sq = { emptied with floor := some { content := .yield o.lane .restart, count := 0 } } ∧
            t.gateOpen = false ∧ (s.st.speaking = true → t.st.speaking = false ∧ t.st.lastSpeech = s.st.elapsed) ∧
            t.lanes = s.lanes ∧ t.window = s.window ∧ t.order = s.order) ∧
          (∀ reason, s.seat = .yielding o reason →
            t = { (s.answering 0x12 0 [] .nothing) with
              seat := .yielding o .restart, flags := flags
              sq := { emptied with floor := some { content := .yield o.lane .restart, count := 0 } } }) ∧
          (s.seat = .waiting ∨ s.seat.isTaking = true → s.ownAsk = .live ticket →
            t.seat = .idle ∧ t.ownAsk = .none ∧ t.flags = flags ∧
            t.sq = { emptied with floor := some { content := .withdraw ticket .restart, count := 0 } }) ∧
          (s.seat = .idle ∨ s.seat.isSettling = true ∨ s.seat = .asking ∧ s.ownAsk = .pending ∨
              s.seat.isTaking = true ∧ s.ownAsk = .none →
            t = (s.answering 0x12 0 [] .nothing).restarted)) ∧
        (s.sq.inFlight = some fl →
          (s.seat = .asking → s.askFlying = true →
            t = { (s.answering 0x12 0 [] .nothing) with
              flags := { flags with cancelLatch := some .restart }, sq := { emptied with floor := s.sq.floor } }) ∧
          (s.seat.isTaking = true → s.takeFlying = true →
            t = { (s.answering 0x12 0 [] .nothing) with
              flags := { flags with cancelLatch := some .restart }, sq := { emptied with floor := s.sq.floor } }) ∧
          (∀ reason, s.seat = .yielding o reason → fl.slot = .floor →
            t = { (s.answering 0x12 0 [] .nothing) with flags := flags, sq := { emptied with floor := s.sq.floor } }) ∧
          (s.seat = .live o ∨ s.seat = .warned o → fl.slot = .hold →
            t.seat = .yielding o .restart ∧ t.flags = flags ∧
            t.sq = { emptied with floor := some { content := .yield o.lane .restart, count := 0 }, hold := s.sq.hold }))) ∧
    (s.flags.restartPending = true → s.sq.inFlight = some fl → fl.slot = .floor → s.sq.floorHeld = none →
      s.flags.cancelLatch = none →
      ((∃ lane, fl.frame.body = .yield lane (BitVec.ofNat 3 (yieldCode .restart))) ∧ s.seat = .yielding o .restart ∨
        fl.frame.body = .withdraw (BitVec.ofNat 2 (causeCode .restart)) ∧ s.seat = .idle) →
      (s.li.bitFault = false →
        Gives .attemptCompleted s fun t =>
          t = State.restarted { s with
            li := s.li.afterSlot
            pp := { s.pp with feed := t.pp.feed, overflow := t.pp.overflow, overflowSince := t.pp.overflowSince } }) ∧
      (s.flightCount .floor = 3 →
        Gives .attemptObjected s fun t =>
          t = State.restarted { s with li := { s.li with
            status := .idle, idleCount := 0, rx := [], tx := [], bitFault := false, objecting := false } })) ∧
    (s.flags.restartPending = true → s.sq.inFlight = none → s.sq.floor = none → s.sq.floorHeld = none →
      Gives .restartCompletion s fun t => t = s.restarted)

/-- UNKNOWN_COMMAND, TRANSACTION_ABANDONED, EVENT_RECORD_REMOVAL, FEED_RECORD_REMOVAL and FEED_OVERFLOW_CLEAR (R179, R180, R183,
R186, R187): a code that is none of the eleven is answered UNKNOWN, and an abandoned transaction executes nothing; the last byte
of a record that was read takes the entry read out of its queue, once, and the overflow flag is cleared unless an overflow came
after the snapshot. At the pins (their order with the line's bits is the model's form, log entry 3, and that the eighth rising
edge of PCLK ends a byte, so that the last bit clocked in executes the command and the last bit clocked out makes the removal, is
the model's choice, log entry 17): the fall of PSEL starts a transaction, and its rise ends one wherever it stands, so that an
entry being read stays at the head, unmarked; the bits of a command clocked in one by one are that command; and PDO carries the
status and the response, each byte's most significant bit first, after which the record's last bit is its last byte's removal. -/
def Obligations.TransactionsEndByTheirLastByte : Prop :=
  ∀ (code : Byte) (tr : Transaction) (s : State), s.Ready →
    ((Instr.unknownCommand code).wellFormed = true →
      Gives (.unknownCommand code) s fun t => t = s.answering code 6 [] .nothing) ∧
    (Gives .transactionAbandoned s fun t =>
      t = { s with pp := { s.pp with psel := false, shift := none, pdoBit := false, reading := false,
                                     transaction := none } }) ∧
    (s.pp.transaction = some tr →
      let out : Option Transaction := some { tr with lastByte := .nothing, clocked := 8 * (1 + tr.response.length) }
      (tr.lastByte = .removeEvent → s.pp.reading = true →
        Gives .eventRecordRemoval s fun t =>
          t = { s with pp := { s.pp with events := s.pp.events.tail, reading := false, transaction := out } }) ∧
      (tr.lastByte = .removeFeed →
        Gives .feedRecordRemoval s fun t =>
          t = { s with pp := { s.pp with feed := s.pp.feed.tail, transaction := out } }) ∧
      (tr.lastByte = .clearOverflow →
        Gives .feedOverflowClear s fun t =>
          t = { s with pp := { s.pp with overflow := s.pp.overflow && s.pp.overflowSince, transaction := out } })) ∧
    (∀ rest, s.pending = [] →
      (s.pins = .pselFall :: rest → s.pp.psel = false →
        step s = .next { s with pins := rest, pp := { s.pp with
          psel := true, shift := some [], pdoBit := false, reading := false, transaction := none } }) ∧
      (s.pins = .pselRise :: rest → s.pp.psel = true →
        step s = .next { s with pins := rest, pp := { s.pp with
          psel := false, shift := none, pdoBit := false, reading := false, transaction := none } }) ∧
      (∀ pdi, s.pins = .pclkRise pdi :: rest → s.pp.psel = true → step s = pclkRise pdi { s with pins := rest })) ∧
    (∀ c bytes, c.wellFormed = true → panelBytes c = some bytes → s.pp.shift = some [] →
      clockIn (bytes.flatMap fun b => bitsMsb 8 b.toNat) s = exec c s) ∧
    (s.pp.shift = none → s.pp.transaction = some tr →
      let record : List Byte := tr.status :: tr.response
      (∀ byte, record[tr.clocked / 8]? = some byte → (pclkFall s).pp.pdoBit = byte.getMsbD (tr.clocked % 8)) ∧
      (record.length ≤ tr.clocked / 8 → (pclkFall s).pp.pdoBit = false) ∧
      ∀ pdi,
        (tr.clocked + 1 < 8 * record.length →
          pclkRise pdi s = .next { s with pp := { s.pp with
            transaction := some { tr with clocked := tr.clocked + 1 } } }) ∧
        (8 * record.length ≤ tr.clocked → pclkRise pdi s = .next s) ∧
        (tr.clocked + 1 = 8 * record.length → tr.lastByte = .removeEvent → s.pp.reading = true →
          pclkRise pdi s = exec .eventRecordRemoval s) ∧
        (tr.clocked + 1 = 8 * record.length → tr.lastByte = .removeFeed →
          pclkRise pdi s = exec .feedRecordRemoval s) ∧
        (tr.clocked + 1 = 8 * record.length → tr.lastByte = .clearOverflow →
          pclkRise pdi s = exec .feedOverflowClear s))

/-- R185: how the event queue takes a posting: lost behind an OVERRUN, merged into an equal LANE_CHANGED or LINE_CHANGED that
is not being read, appended while there are fewer than 16, and otherwise lost with the last entry replaced by OVERRUN. ATTN is
high exactly while the queue holds an event or the feed queue holds at least 8 records (R188). -/
def Obligations.EventQueueMergesAppendsOrOverruns : Prop :=
  ∀ (stamp : Nat) (reading : Bool) (q : List EventRec) (e : Event) (s : State),
    (s.resetLow = false → (s.attn = true ↔ s.pp.events ≠ [] ∨ 8 ≤ s.pp.feed.length)) ∧
    ((∃ r ∈ q, r.event = .overrun) → enqueueEvent stamp reading q e = q) ∧
    ((∀ r ∈ q, r.event ≠ .overrun) →
      ((e = .lineChanged ∨ ∃ lane, e = .laneChanged lane) →
        (∃ r ∈ (if reading then q.tail else q), r.event = e) → enqueueEvent stamp reading q e = q) ∧
      (((∀ lane, e ≠ .laneChanged lane) ∧ e ≠ .lineChanged ∨ ∀ r ∈ (if reading then q.tail else q), r.event ≠ e) →
        (q.length < 16 → enqueueEvent stamp reading q e = q ++ [{ event := e, stamp := stamp }]) ∧
        (q.length = 16 → enqueueEvent stamp reading q e = q.take 15 ++ [{ event := .overrun, stamp := stamp }])))
end

