-- ==== Sys2Proof/Laws/State.lean ====
section
/-! SUPPORT. One lemma per field for each update of the state that changes its fields in every case. -/

namespace Sys2Proof.Machine

open Sys2Proof

/-! `post`: an event posted (R185) -/

@[simp] theorem post_pending (b : Block) (e : Event) (s : State) : (post b e s).pending = s.pending := rfl
@[simp] theorem post_resetLow (b : Block) (e : Event) (s : State) : (post b e s).resetLow = s.resetLow := rfl
@[simp] theorem post_pins (b : Block) (e : Event) (s : State) : (post b e s).pins = s.pins := rfl
@[simp] theorem post_addr (b : Block) (e : Event) (s : State) : (post b e s).addr = s.addr := rfl
@[simp] theorem post_role (b : Block) (e : Event) (s : State) : (post b e s).role = s.role := rfl
@[simp] theorem post_profile (b : Block) (e : Event) (s : State) : (post b e s).profile = s.profile := rfl
@[simp] theorem post_li (b : Block) (e : Event) (s : State) : (post b e s).li = s.li := rfl
@[simp] theorem post_sq (b : Block) (e : Event) (s : State) : (post b e s).sq = s.sq := rfl
@[simp] theorem post_lanes (b : Block) (e : Event) (s : State) : (post b e s).lanes = s.lanes := rfl
@[simp] theorem post_mutes (b : Block) (e : Event) (s : State) : (post b e s).mutes = s.mutes := rfl
@[simp] theorem post_viewTicks (b : Block) (e : Event) (s : State) : (post b e s).viewTicks = s.viewTicks := rfl
@[simp] theorem post_window (b : Block) (e : Event) (s : State) : (post b e s).window = s.window := rfl
@[simp] theorem post_mark (b : Block) (e : Event) (s : State) : (post b e s).mark = s.mark := rfl
@[simp] theorem post_ownAsk (b : Block) (e : Event) (s : State) : (post b e s).ownAsk = s.ownAsk := rfl
@[simp] theorem post_order (b : Block) (e : Event) (s : State) : (post b e s).order = s.order := rfl
@[simp] theorem post_seat (b : Block) (e : Event) (s : State) : (post b e s).seat = s.seat := rfl
@[simp] theorem post_flags (b : Block) (e : Event) (s : State) : (post b e s).flags = s.flags := rfl
@[simp] theorem post_st (b : Block) (e : Event) (s : State) : (post b e s).st = s.st := rfl
@[simp] theorem post_vu (b : Block) (e : Event) (s : State) : (post b e s).vu = s.vu := rfl
@[simp] theorem post_gc (b : Block) (e : Event) (s : State) : (post b e s).gc = s.gc := rfl
@[simp] theorem post_key1 (b : Block) (e : Event) (s : State) : (post b e s).key1 = s.key1 := rfl
@[simp] theorem post_key2 (b : Block) (e : Event) (s : State) : (post b e s).key2 = s.key2 := rfl
@[simp] theorem post_key3 (b : Block) (e : Event) (s : State) : (post b e s).key3 = s.key3 := rfl
@[simp] theorem post_flash (b : Block) (e : Event) (s : State) : (post b e s).flash = s.flash := rfl
@[simp] theorem post_pp (b : Block) (e : Event) (s : State) : (post b e s).pp = s.pp := rfl
@[simp] theorem post_outbox (b : Block) (e : Event) (s : State) :
    (post b e s).outbox = s.outbox ++ [{ block := b, event := e }] := rfl
@[simp] theorem post_freeCount (b : Block) (e : Event) (s : State) : (post b e s).freeCount = s.freeCount := rfl

/-! `signalRefusal`: a refusal signalled (R177) -/

@[simp] theorem signalRefusal_pending (s : State) : (signalRefusal s).pending = s.pending := rfl
@[simp] theorem signalRefusal_resetLow (s : State) : (signalRefusal s).resetLow = s.resetLow := rfl
@[simp] theorem signalRefusal_pins (s : State) : (signalRefusal s).pins = s.pins := rfl
@[simp] theorem signalRefusal_addr (s : State) : (signalRefusal s).addr = s.addr := rfl
@[simp] theorem signalRefusal_role (s : State) : (signalRefusal s).role = s.role := rfl
@[simp] theorem signalRefusal_profile (s : State) : (signalRefusal s).profile = s.profile := rfl
@[simp] theorem signalRefusal_li (s : State) : (signalRefusal s).li = s.li := rfl
@[simp] theorem signalRefusal_sq (s : State) : (signalRefusal s).sq = s.sq := rfl
@[simp] theorem signalRefusal_lanes (s : State) : (signalRefusal s).lanes = s.lanes := rfl
@[simp] theorem signalRefusal_mutes (s : State) : (signalRefusal s).mutes = s.mutes := rfl
@[simp] theorem signalRefusal_viewTicks (s : State) : (signalRefusal s).viewTicks = s.viewTicks := rfl
@[simp] theorem signalRefusal_window (s : State) : (signalRefusal s).window = s.window := rfl
@[simp] theorem signalRefusal_mark (s : State) : (signalRefusal s).mark = s.mark := rfl
@[simp] theorem signalRefusal_ownAsk (s : State) : (signalRefusal s).ownAsk = s.ownAsk := rfl
@[simp] theorem signalRefusal_order (s : State) : (signalRefusal s).order = s.order := rfl
@[simp] theorem signalRefusal_seat (s : State) : (signalRefusal s).seat = s.seat := rfl
@[simp] theorem signalRefusal_flags (s : State) : (signalRefusal s).flags = s.flags := rfl
@[simp] theorem signalRefusal_st (s : State) : (signalRefusal s).st = s.st := rfl
@[simp] theorem signalRefusal_vu (s : State) : (signalRefusal s).vu = s.vu := rfl
@[simp] theorem signalRefusal_gc (s : State) : (signalRefusal s).gc = s.gc := rfl
@[simp] theorem signalRefusal_key1 (s : State) : (signalRefusal s).key1 = s.key1 := rfl
@[simp] theorem signalRefusal_key2 (s : State) : (signalRefusal s).key2 = s.key2 := rfl
@[simp] theorem signalRefusal_key3 (s : State) : (signalRefusal s).key3 = s.key3 := rfl
@[simp] theorem signalRefusal_flash (s : State) : (signalRefusal s).flash = .running 2000 := rfl
@[simp] theorem signalRefusal_pp (s : State) : (signalRefusal s).pp = s.pp := rfl
@[simp] theorem signalRefusal_outbox (s : State) : (signalRefusal s).outbox = s.outbox := rfl
@[simp] theorem signalRefusal_freeCount (s : State) : (signalRefusal s).freeCount = s.freeCount := rfl

/-! `gateSpeech`: Gate Control at a speech LIVE entry (R157 to R159) -/

@[simp] theorem gateSpeech_pending (lane : Fin 8) (s : State) : (gateSpeech lane s).pending = s.pending := rfl
@[simp] theorem gateSpeech_resetLow (lane : Fin 8) (s : State) : (gateSpeech lane s).resetLow = s.resetLow := rfl
@[simp] theorem gateSpeech_pins (lane : Fin 8) (s : State) : (gateSpeech lane s).pins = s.pins := rfl
@[simp] theorem gateSpeech_addr (lane : Fin 8) (s : State) : (gateSpeech lane s).addr = s.addr := rfl
@[simp] theorem gateSpeech_role (lane : Fin 8) (s : State) : (gateSpeech lane s).role = s.role := rfl
@[simp] theorem gateSpeech_profile (lane : Fin 8) (s : State) : (gateSpeech lane s).profile = s.profile := rfl
@[simp] theorem gateSpeech_li (lane : Fin 8) (s : State) : (gateSpeech lane s).li = s.li := rfl
@[simp] theorem gateSpeech_sq (lane : Fin 8) (s : State) : (gateSpeech lane s).sq = s.sq := rfl
@[simp] theorem gateSpeech_lanes (lane : Fin 8) (s : State) : (gateSpeech lane s).lanes = s.lanes := rfl
@[simp] theorem gateSpeech_mutes (lane : Fin 8) (s : State) : (gateSpeech lane s).mutes = s.mutes := rfl
@[simp] theorem gateSpeech_viewTicks (lane : Fin 8) (s : State) : (gateSpeech lane s).viewTicks = s.viewTicks := rfl
@[simp] theorem gateSpeech_window (lane : Fin 8) (s : State) : (gateSpeech lane s).window = s.window := rfl
@[simp] theorem gateSpeech_mark (lane : Fin 8) (s : State) : (gateSpeech lane s).mark = s.mark := rfl
@[simp] theorem gateSpeech_ownAsk (lane : Fin 8) (s : State) : (gateSpeech lane s).ownAsk = s.ownAsk := rfl
@[simp] theorem gateSpeech_order (lane : Fin 8) (s : State) : (gateSpeech lane s).order = s.order := rfl
@[simp] theorem gateSpeech_seat (lane : Fin 8) (s : State) : (gateSpeech lane s).seat = s.seat := rfl
@[simp] theorem gateSpeech_flags (lane : Fin 8) (s : State) : (gateSpeech lane s).flags = s.flags := rfl
@[simp] theorem gateSpeech_st (lane : Fin 8) (s : State) : (gateSpeech lane s).st = s.st := rfl
@[simp] theorem gateSpeech_vu (lane : Fin 8) (s : State) : (gateSpeech lane s).vu = s.vu := rfl
@[simp] theorem gateSpeech_gc (lane : Fin 8) (s : State) :
    (gateSpeech lane s).gc =
      { laneSel := lane, gateDelay := .running s.prof.gateDelay, spkMute := true, duckTail := .stopped } := rfl
@[simp] theorem gateSpeech_key1 (lane : Fin 8) (s : State) : (gateSpeech lane s).key1 = s.key1 := rfl
@[simp] theorem gateSpeech_key2 (lane : Fin 8) (s : State) : (gateSpeech lane s).key2 = s.key2 := rfl
@[simp] theorem gateSpeech_key3 (lane : Fin 8) (s : State) : (gateSpeech lane s).key3 = s.key3 := rfl
@[simp] theorem gateSpeech_flash (lane : Fin 8) (s : State) : (gateSpeech lane s).flash = s.flash := rfl
@[simp] theorem gateSpeech_pp (lane : Fin 8) (s : State) : (gateSpeech lane s).pp = s.pp := rfl
@[simp] theorem gateSpeech_outbox (lane : Fin 8) (s : State) : (gateSpeech lane s).outbox = s.outbox := rfl
@[simp] theorem gateSpeech_freeCount (lane : Fin 8) (s : State) : (gateSpeech lane s).freeCount = s.freeCount := rfl

/-! `refuseOwnAsk`: the Own Ask ends with a refusal (R83) -/

@[simp] theorem refuseOwnAsk_pending (s : State) : (refuseOwnAsk s).pending = s.pending := rfl
@[simp] theorem refuseOwnAsk_resetLow (s : State) : (refuseOwnAsk s).resetLow = s.resetLow := rfl
@[simp] theorem refuseOwnAsk_pins (s : State) : (refuseOwnAsk s).pins = s.pins := rfl
@[simp] theorem refuseOwnAsk_addr (s : State) : (refuseOwnAsk s).addr = s.addr := rfl
@[simp] theorem refuseOwnAsk_role (s : State) : (refuseOwnAsk s).role = s.role := rfl
@[simp] theorem refuseOwnAsk_profile (s : State) : (refuseOwnAsk s).profile = s.profile := rfl
@[simp] theorem refuseOwnAsk_li (s : State) : (refuseOwnAsk s).li = s.li := rfl
@[simp] theorem refuseOwnAsk_sq (s : State) : (refuseOwnAsk s).sq = s.sq := rfl
@[simp] theorem refuseOwnAsk_lanes (s : State) : (refuseOwnAsk s).lanes = s.lanes := rfl
@[simp] theorem refuseOwnAsk_mutes (s : State) : (refuseOwnAsk s).mutes = s.mutes := rfl
@[simp] theorem refuseOwnAsk_viewTicks (s : State) : (refuseOwnAsk s).viewTicks = s.viewTicks := rfl
@[simp] theorem refuseOwnAsk_window (s : State) : (refuseOwnAsk s).window = s.window := rfl
@[simp] theorem refuseOwnAsk_mark (s : State) : (refuseOwnAsk s).mark = s.mark := rfl
@[simp] theorem refuseOwnAsk_ownAsk (s : State) : (refuseOwnAsk s).ownAsk = .none := rfl
@[simp] theorem refuseOwnAsk_order (s : State) : (refuseOwnAsk s).order = s.order := rfl
@[simp] theorem refuseOwnAsk_seat (s : State) : (refuseOwnAsk s).seat = s.seat := rfl
@[simp] theorem refuseOwnAsk_flags (s : State) : (refuseOwnAsk s).flags = s.flags := rfl
@[simp] theorem refuseOwnAsk_st (s : State) : (refuseOwnAsk s).st = { s.st with waitMeter := 0 } := rfl
@[simp] theorem refuseOwnAsk_vu (s : State) : (refuseOwnAsk s).vu = s.vu := rfl
@[simp] theorem refuseOwnAsk_gc (s : State) : (refuseOwnAsk s).gc = s.gc := rfl
@[simp] theorem refuseOwnAsk_key1 (s : State) : (refuseOwnAsk s).key1 = s.key1 := rfl
@[simp] theorem refuseOwnAsk_key2 (s : State) : (refuseOwnAsk s).key2 = s.key2 := rfl
@[simp] theorem refuseOwnAsk_key3 (s : State) : (refuseOwnAsk s).key3 = s.key3 := rfl
@[simp] theorem refuseOwnAsk_flash (s : State) : (refuseOwnAsk s).flash = s.flash := rfl
@[simp] theorem refuseOwnAsk_pp (s : State) : (refuseOwnAsk s).pp = s.pp := rfl
@[simp] theorem refuseOwnAsk_outbox (s : State) : (refuseOwnAsk s).outbox = s.outbox := rfl
@[simp] theorem refuseOwnAsk_freeCount (s : State) : (refuseOwnAsk s).freeCount = s.freeCount := rfl

/-! `pushDirect`: a DIRECT pushed (R37) -/

@[simp] theorem pushDirect_pending (d : DirectFrame) (s : State) : (pushDirect d s).pending = s.pending := rfl
@[simp] theorem pushDirect_resetLow (d : DirectFrame) (s : State) : (pushDirect d s).resetLow = s.resetLow := rfl
@[simp] theorem pushDirect_pins (d : DirectFrame) (s : State) : (pushDirect d s).pins = s.pins := rfl
@[simp] theorem pushDirect_addr (d : DirectFrame) (s : State) : (pushDirect d s).addr = s.addr := rfl
@[simp] theorem pushDirect_role (d : DirectFrame) (s : State) : (pushDirect d s).role = s.role := rfl
@[simp] theorem pushDirect_profile (d : DirectFrame) (s : State) : (pushDirect d s).profile = s.profile := rfl
@[simp] theorem pushDirect_li (d : DirectFrame) (s : State) : (pushDirect d s).li = s.li := rfl
@[simp] theorem pushDirect_sq (d : DirectFrame) (s : State) :
    (pushDirect d s).sq = { s.sq with direct := s.sq.direct ++ [{ content := d, count := 0 }] } := rfl
@[simp] theorem pushDirect_lanes (d : DirectFrame) (s : State) : (pushDirect d s).lanes = s.lanes := rfl
@[simp] theorem pushDirect_mutes (d : DirectFrame) (s : State) : (pushDirect d s).mutes = s.mutes := rfl
@[simp] theorem pushDirect_viewTicks (d : DirectFrame) (s : State) : (pushDirect d s).viewTicks = s.viewTicks := rfl
@[simp] theorem pushDirect_window (d : DirectFrame) (s : State) : (pushDirect d s).window = s.window := rfl
@[simp] theorem pushDirect_mark (d : DirectFrame) (s : State) : (pushDirect d s).mark = s.mark := rfl
@[simp] theorem pushDirect_ownAsk (d : DirectFrame) (s : State) : (pushDirect d s).ownAsk = s.ownAsk := rfl
@[simp] theorem pushDirect_order (d : DirectFrame) (s : State) : (pushDirect d s).order = s.order := rfl
@[simp] theorem pushDirect_seat (d : DirectFrame) (s : State) : (pushDirect d s).seat = s.seat := rfl
@[simp] theorem pushDirect_flags (d : DirectFrame) (s : State) : (pushDirect d s).flags = s.flags := rfl
@[simp] theorem pushDirect_st (d : DirectFrame) (s : State) : (pushDirect d s).st = s.st := rfl
@[simp] theorem pushDirect_vu (d : DirectFrame) (s : State) : (pushDirect d s).vu = s.vu := rfl
@[simp] theorem pushDirect_gc (d : DirectFrame) (s : State) : (pushDirect d s).gc = s.gc := rfl
@[simp] theorem pushDirect_key1 (d : DirectFrame) (s : State) : (pushDirect d s).key1 = s.key1 := rfl
@[simp] theorem pushDirect_key2 (d : DirectFrame) (s : State) : (pushDirect d s).key2 = s.key2 := rfl
@[simp] theorem pushDirect_key3 (d : DirectFrame) (s : State) : (pushDirect d s).key3 = s.key3 := rfl
@[simp] theorem pushDirect_flash (d : DirectFrame) (s : State) : (pushDirect d s).flash = s.flash := rfl
@[simp] theorem pushDirect_pp (d : DirectFrame) (s : State) : (pushDirect d s).pp = s.pp := rfl
@[simp] theorem pushDirect_outbox (d : DirectFrame) (s : State) : (pushDirect d s).outbox = s.outbox := rfl
@[simp] theorem pushDirect_freeCount (d : DirectFrame) (s : State) : (pushDirect d s).freeCount = s.freeCount := rfl

/-! `raiseMark`: the Ticket Mark raised (R77) -/

@[simp] theorem raiseMark_pending (k : Nat) (s : State) : (raiseMark k s).pending = s.pending := rfl
@[simp] theorem raiseMark_resetLow (k : Nat) (s : State) : (raiseMark k s).resetLow = s.resetLow := rfl
@[simp] theorem raiseMark_pins (k : Nat) (s : State) : (raiseMark k s).pins = s.pins := rfl
@[simp] theorem raiseMark_addr (k : Nat) (s : State) : (raiseMark k s).addr = s.addr := rfl
@[simp] theorem raiseMark_role (k : Nat) (s : State) : (raiseMark k s).role = s.role := rfl
@[simp] theorem raiseMark_profile (k : Nat) (s : State) : (raiseMark k s).profile = s.profile := rfl
@[simp] theorem raiseMark_li (k : Nat) (s : State) : (raiseMark k s).li = s.li := rfl
@[simp] theorem raiseMark_sq (k : Nat) (s : State) : (raiseMark k s).sq = s.sq := rfl
@[simp] theorem raiseMark_lanes (k : Nat) (s : State) : (raiseMark k s).lanes = s.lanes := rfl
@[simp] theorem raiseMark_mutes (k : Nat) (s : State) : (raiseMark k s).mutes = s.mutes := rfl
@[simp] theorem raiseMark_viewTicks (k : Nat) (s : State) : (raiseMark k s).viewTicks = s.viewTicks := rfl
@[simp] theorem raiseMark_window (k : Nat) (s : State) : (raiseMark k s).window = s.window := rfl
@[simp] theorem raiseMark_mark (k : Nat) (s : State) : (raiseMark k s).mark = max s.mark k := rfl
@[simp] theorem raiseMark_ownAsk (k : Nat) (s : State) : (raiseMark k s).ownAsk = s.ownAsk := rfl
@[simp] theorem raiseMark_order (k : Nat) (s : State) : (raiseMark k s).order = s.order := rfl
@[simp] theorem raiseMark_seat (k : Nat) (s : State) : (raiseMark k s).seat = s.seat := rfl
@[simp] theorem raiseMark_flags (k : Nat) (s : State) : (raiseMark k s).flags = s.flags := rfl
@[simp] theorem raiseMark_st (k : Nat) (s : State) : (raiseMark k s).st = s.st := rfl
@[simp] theorem raiseMark_vu (k : Nat) (s : State) : (raiseMark k s).vu = s.vu := rfl
@[simp] theorem raiseMark_gc (k : Nat) (s : State) : (raiseMark k s).gc = s.gc := rfl
@[simp] theorem raiseMark_key1 (k : Nat) (s : State) : (raiseMark k s).key1 = s.key1 := rfl
@[simp] theorem raiseMark_key2 (k : Nat) (s : State) : (raiseMark k s).key2 = s.key2 := rfl
@[simp] theorem raiseMark_key3 (k : Nat) (s : State) : (raiseMark k s).key3 = s.key3 := rfl
@[simp] theorem raiseMark_flash (k : Nat) (s : State) : (raiseMark k s).flash = s.flash := rfl
@[simp] theorem raiseMark_pp (k : Nat) (s : State) : (raiseMark k s).pp = s.pp := rfl
@[simp] theorem raiseMark_outbox (k : Nat) (s : State) : (raiseMark k s).outbox = s.outbox := rfl
@[simp] theorem raiseMark_freeCount (k : Nat) (s : State) : (raiseMark k s).freeCount = s.freeCount := rfl

/-! `setLanes`: the lane records set (R62) -/

@[simp] theorem setLanes_pending (w : Vector Lane 8) (s : State) : (setLanes w s).pending = s.pending := rfl
@[simp] theorem setLanes_resetLow (w : Vector Lane 8) (s : State) : (setLanes w s).resetLow = s.resetLow := rfl
@[simp] theorem setLanes_pins (w : Vector Lane 8) (s : State) : (setLanes w s).pins = s.pins := rfl
@[simp] theorem setLanes_addr (w : Vector Lane 8) (s : State) : (setLanes w s).addr = s.addr := rfl
@[simp] theorem setLanes_role (w : Vector Lane 8) (s : State) : (setLanes w s).role = s.role := rfl
@[simp] theorem setLanes_profile (w : Vector Lane 8) (s : State) : (setLanes w s).profile = s.profile := rfl
@[simp] theorem setLanes_li (w : Vector Lane 8) (s : State) : (setLanes w s).li = s.li := rfl
@[simp] theorem setLanes_sq (w : Vector Lane 8) (s : State) : (setLanes w s).sq = s.sq := rfl
@[simp] theorem setLanes_lanes (w : Vector Lane 8) (s : State) : (setLanes w s).lanes = w := rfl
@[simp] theorem setLanes_mutes (w : Vector Lane 8) (s : State) : (setLanes w s).mutes = s.mutes := rfl
@[simp] theorem setLanes_viewTicks (w : Vector Lane 8) (s : State) : (setLanes w s).viewTicks = s.viewTicks := rfl
@[simp] theorem setLanes_window (w : Vector Lane 8) (s : State) : (setLanes w s).window = s.window := rfl
@[simp] theorem setLanes_mark (w : Vector Lane 8) (s : State) : (setLanes w s).mark = s.mark := rfl
@[simp] theorem setLanes_ownAsk (w : Vector Lane 8) (s : State) : (setLanes w s).ownAsk = s.ownAsk := rfl
@[simp] theorem setLanes_order (w : Vector Lane 8) (s : State) : (setLanes w s).order = s.order := rfl
@[simp] theorem setLanes_seat (w : Vector Lane 8) (s : State) : (setLanes w s).seat = s.seat := rfl
@[simp] theorem setLanes_flags (w : Vector Lane 8) (s : State) : (setLanes w s).flags = s.flags := rfl
@[simp] theorem setLanes_st (w : Vector Lane 8) (s : State) : (setLanes w s).st = s.st := rfl
@[simp] theorem setLanes_vu (w : Vector Lane 8) (s : State) : (setLanes w s).vu = s.vu := rfl
@[simp] theorem setLanes_gc (w : Vector Lane 8) (s : State) : (setLanes w s).gc = s.gc := rfl
@[simp] theorem setLanes_key1 (w : Vector Lane 8) (s : State) : (setLanes w s).key1 = s.key1 := rfl
@[simp] theorem setLanes_key2 (w : Vector Lane 8) (s : State) : (setLanes w s).key2 = s.key2 := rfl
@[simp] theorem setLanes_key3 (w : Vector Lane 8) (s : State) : (setLanes w s).key3 = s.key3 := rfl
@[simp] theorem setLanes_flash (w : Vector Lane 8) (s : State) : (setLanes w s).flash = s.flash := rfl
@[simp] theorem setLanes_pp (w : Vector Lane 8) (s : State) : (setLanes w s).pp = s.pp := rfl
@[simp] theorem setLanes_outbox (w : Vector Lane 8) (s : State) :
    (setLanes w s).outbox = s.outbox ++ laneEvents s.lanes w := rfl
@[simp] theorem setLanes_freeCount (w : Vector Lane 8) (s : State) : (setLanes w s).freeCount = s.freeCount := rfl

/-! `lineIdle`: LI enters IDLE (R3, R14) -/

@[simp] theorem lineIdle_pending (s : State) : (lineIdle s).pending = s.pending := rfl
@[simp] theorem lineIdle_resetLow (s : State) : (lineIdle s).resetLow = s.resetLow := rfl
@[simp] theorem lineIdle_pins (s : State) : (lineIdle s).pins = s.pins := rfl
@[simp] theorem lineIdle_addr (s : State) : (lineIdle s).addr = s.addr := rfl
@[simp] theorem lineIdle_role (s : State) : (lineIdle s).role = s.role := rfl
@[simp] theorem lineIdle_profile (s : State) : (lineIdle s).profile = s.profile := rfl
@[simp] theorem lineIdle_li (s : State) :
    (lineIdle s).li =
      { s.li with status := .idle, idleCount := 0, rx := [], tx := [], bitFault := false, objecting := false } := rfl
@[simp] theorem lineIdle_sq (s : State) : (lineIdle s).sq = s.sq := rfl
@[simp] theorem lineIdle_lanes (s : State) : (lineIdle s).lanes = s.lanes := rfl
@[simp] theorem lineIdle_mutes (s : State) : (lineIdle s).mutes = s.mutes := rfl
@[simp] theorem lineIdle_viewTicks (s : State) : (lineIdle s).viewTicks = s.viewTicks := rfl
@[simp] theorem lineIdle_window (s : State) : (lineIdle s).window = s.window := rfl
@[simp] theorem lineIdle_mark (s : State) : (lineIdle s).mark = s.mark := rfl
@[simp] theorem lineIdle_ownAsk (s : State) : (lineIdle s).ownAsk = s.ownAsk := rfl
@[simp] theorem lineIdle_order (s : State) : (lineIdle s).order = s.order := rfl
@[simp] theorem lineIdle_seat (s : State) : (lineIdle s).seat = s.seat := rfl
@[simp] theorem lineIdle_flags (s : State) : (lineIdle s).flags = s.flags := rfl
@[simp] theorem lineIdle_st (s : State) : (lineIdle s).st = s.st := rfl
@[simp] theorem lineIdle_vu (s : State) : (lineIdle s).vu = s.vu := rfl
@[simp] theorem lineIdle_gc (s : State) : (lineIdle s).gc = s.gc := rfl
@[simp] theorem lineIdle_key1 (s : State) : (lineIdle s).key1 = s.key1 := rfl
@[simp] theorem lineIdle_key2 (s : State) : (lineIdle s).key2 = s.key2 := rfl
@[simp] theorem lineIdle_key3 (s : State) : (lineIdle s).key3 = s.key3 := rfl
@[simp] theorem lineIdle_flash (s : State) : (lineIdle s).flash = s.flash := rfl
@[simp] theorem lineIdle_pp (s : State) : (lineIdle s).pp = s.pp := rfl
@[simp] theorem lineIdle_outbox (s : State) : (lineIdle s).outbox = s.outbox := rfl
@[simp] theorem lineIdle_freeCount (s : State) : (lineIdle s).freeCount = s.freeCount := rfl

/-! `slotRecessive`: a recessive slot (R18) -/

@[simp] theorem slotRecessive_pending (s : State) : (slotRecessive s).pending = s.pending := rfl
@[simp] theorem slotRecessive_resetLow (s : State) : (slotRecessive s).resetLow = s.resetLow := rfl
@[simp] theorem slotRecessive_pins (s : State) : (slotRecessive s).pins = s.pins := rfl
@[simp] theorem slotRecessive_addr (s : State) : (slotRecessive s).addr = s.addr := rfl
@[simp] theorem slotRecessive_role (s : State) : (slotRecessive s).role = s.role := rfl
@[simp] theorem slotRecessive_profile (s : State) : (slotRecessive s).profile = s.profile := rfl
@[simp] theorem slotRecessive_li (s : State) : (slotRecessive s).li = { s.li with dominantRun := 0 } := rfl
@[simp] theorem slotRecessive_sq (s : State) : (slotRecessive s).sq = s.sq := rfl
@[simp] theorem slotRecessive_lanes (s : State) : (slotRecessive s).lanes = s.lanes := rfl
@[simp] theorem slotRecessive_mutes (s : State) : (slotRecessive s).mutes = s.mutes := rfl
@[simp] theorem slotRecessive_viewTicks (s : State) : (slotRecessive s).viewTicks = s.viewTicks := rfl
@[simp] theorem slotRecessive_window (s : State) : (slotRecessive s).window = s.window := rfl
@[simp] theorem slotRecessive_mark (s : State) : (slotRecessive s).mark = s.mark := rfl
@[simp] theorem slotRecessive_ownAsk (s : State) : (slotRecessive s).ownAsk = s.ownAsk := rfl
@[simp] theorem slotRecessive_order (s : State) : (slotRecessive s).order = s.order := rfl
@[simp] theorem slotRecessive_seat (s : State) : (slotRecessive s).seat = s.seat := rfl
@[simp] theorem slotRecessive_flags (s : State) : (slotRecessive s).flags = s.flags := rfl
@[simp] theorem slotRecessive_st (s : State) : (slotRecessive s).st = s.st := rfl
@[simp] theorem slotRecessive_vu (s : State) : (slotRecessive s).vu = s.vu := rfl
@[simp] theorem slotRecessive_gc (s : State) : (slotRecessive s).gc = s.gc := rfl
@[simp] theorem slotRecessive_key1 (s : State) : (slotRecessive s).key1 = s.key1 := rfl
@[simp] theorem slotRecessive_key2 (s : State) : (slotRecessive s).key2 = s.key2 := rfl
@[simp] theorem slotRecessive_key3 (s : State) : (slotRecessive s).key3 = s.key3 := rfl
@[simp] theorem slotRecessive_flash (s : State) : (slotRecessive s).flash = s.flash := rfl
@[simp] theorem slotRecessive_pp (s : State) : (slotRecessive s).pp = s.pp := rfl
@[simp] theorem slotRecessive_outbox (s : State) : (slotRecessive s).outbox = s.outbox := rfl
@[simp] theorem slotRecessive_freeCount (s : State) : (slotRecessive s).freeCount = s.freeCount := rfl

/-! `burstEnd`: the objection burst ends (R13) -/

@[simp] theorem burstEnd_pending (s : State) : (burstEnd s).pending = s.pending := rfl
@[simp] theorem burstEnd_resetLow (s : State) : (burstEnd s).resetLow = s.resetLow := rfl
@[simp] theorem burstEnd_pins (s : State) : (burstEnd s).pins = s.pins := rfl
@[simp] theorem burstEnd_addr (s : State) : (burstEnd s).addr = s.addr := rfl
@[simp] theorem burstEnd_role (s : State) : (burstEnd s).role = s.role := rfl
@[simp] theorem burstEnd_profile (s : State) : (burstEnd s).profile = s.profile := rfl
@[simp] theorem burstEnd_li (s : State) : (burstEnd s).li = { s.li with burstLeft := 0 } := rfl
@[simp] theorem burstEnd_sq (s : State) : (burstEnd s).sq = s.sq := rfl
@[simp] theorem burstEnd_lanes (s : State) : (burstEnd s).lanes = s.lanes := rfl
@[simp] theorem burstEnd_mutes (s : State) : (burstEnd s).mutes = s.mutes := rfl
@[simp] theorem burstEnd_viewTicks (s : State) : (burstEnd s).viewTicks = s.viewTicks := rfl
@[simp] theorem burstEnd_window (s : State) : (burstEnd s).window = s.window := rfl
@[simp] theorem burstEnd_mark (s : State) : (burstEnd s).mark = s.mark := rfl
@[simp] theorem burstEnd_ownAsk (s : State) : (burstEnd s).ownAsk = s.ownAsk := rfl
@[simp] theorem burstEnd_order (s : State) : (burstEnd s).order = s.order := rfl
@[simp] theorem burstEnd_seat (s : State) : (burstEnd s).seat = s.seat := rfl
@[simp] theorem burstEnd_flags (s : State) : (burstEnd s).flags = s.flags := rfl
@[simp] theorem burstEnd_st (s : State) : (burstEnd s).st = s.st := rfl
@[simp] theorem burstEnd_vu (s : State) : (burstEnd s).vu = s.vu := rfl
@[simp] theorem burstEnd_gc (s : State) : (burstEnd s).gc = s.gc := rfl
@[simp] theorem burstEnd_key1 (s : State) : (burstEnd s).key1 = s.key1 := rfl
@[simp] theorem burstEnd_key2 (s : State) : (burstEnd s).key2 = s.key2 := rfl
@[simp] theorem burstEnd_key3 (s : State) : (burstEnd s).key3 = s.key3 := rfl
@[simp] theorem burstEnd_flash (s : State) : (burstEnd s).flash = s.flash := rfl
@[simp] theorem burstEnd_pp (s : State) : (burstEnd s).pp = s.pp := rfl
@[simp] theorem burstEnd_outbox (s : State) : (burstEnd s).outbox = s.outbox := rfl
@[simp] theorem burstEnd_freeCount (s : State) : (burstEnd s).freeCount = s.freeCount := rfl

/-! `setLatch`: the cancel latch set (R119) -/

@[simp] theorem setLatch_pending (c : Cause) (s : State) : (setLatch c s).pending = s.pending := rfl
@[simp] theorem setLatch_resetLow (c : Cause) (s : State) : (setLatch c s).resetLow = s.resetLow := rfl
@[simp] theorem setLatch_pins (c : Cause) (s : State) : (setLatch c s).pins = s.pins := rfl
@[simp] theorem setLatch_addr (c : Cause) (s : State) : (setLatch c s).addr = s.addr := rfl
@[simp] theorem setLatch_role (c : Cause) (s : State) : (setLatch c s).role = s.role := rfl
@[simp] theorem setLatch_profile (c : Cause) (s : State) : (setLatch c s).profile = s.profile := rfl
@[simp] theorem setLatch_li (c : Cause) (s : State) : (setLatch c s).li = s.li := rfl
@[simp] theorem setLatch_sq (c : Cause) (s : State) : (setLatch c s).sq = s.sq := rfl
@[simp] theorem setLatch_lanes (c : Cause) (s : State) : (setLatch c s).lanes = s.lanes := rfl
@[simp] theorem setLatch_mutes (c : Cause) (s : State) : (setLatch c s).mutes = s.mutes := rfl
@[simp] theorem setLatch_viewTicks (c : Cause) (s : State) : (setLatch c s).viewTicks = s.viewTicks := rfl
@[simp] theorem setLatch_window (c : Cause) (s : State) : (setLatch c s).window = s.window := rfl
@[simp] theorem setLatch_mark (c : Cause) (s : State) : (setLatch c s).mark = s.mark := rfl
@[simp] theorem setLatch_ownAsk (c : Cause) (s : State) : (setLatch c s).ownAsk = s.ownAsk := rfl
@[simp] theorem setLatch_order (c : Cause) (s : State) : (setLatch c s).order = s.order := rfl
@[simp] theorem setLatch_seat (c : Cause) (s : State) : (setLatch c s).seat = s.seat := rfl
@[simp] theorem setLatch_flags (c : Cause) (s : State) :
    (setLatch c s).flags = { s.flags with cancelLatch := some (s.flags.cancelLatch.getD c) } := rfl
@[simp] theorem setLatch_st (c : Cause) (s : State) : (setLatch c s).st = s.st := rfl
@[simp] theorem setLatch_vu (c : Cause) (s : State) : (setLatch c s).vu = s.vu := rfl
@[simp] theorem setLatch_gc (c : Cause) (s : State) : (setLatch c s).gc = s.gc := rfl
@[simp] theorem setLatch_key1 (c : Cause) (s : State) : (setLatch c s).key1 = s.key1 := rfl
@[simp] theorem setLatch_key2 (c : Cause) (s : State) : (setLatch c s).key2 = s.key2 := rfl
@[simp] theorem setLatch_key3 (c : Cause) (s : State) : (setLatch c s).key3 = s.key3 := rfl
@[simp] theorem setLatch_flash (c : Cause) (s : State) : (setLatch c s).flash = s.flash := rfl
@[simp] theorem setLatch_pp (c : Cause) (s : State) : (setLatch c s).pp = s.pp := rfl
@[simp] theorem setLatch_outbox (c : Cause) (s : State) : (setLatch c s).outbox = s.outbox := rfl
@[simp] theorem setLatch_freeCount (c : Cause) (s : State) : (setLatch c s).freeCount = s.freeCount := rfl

/-! `latchRestart`: the cancel latch set by RESTART (R131) -/

@[simp] theorem latchRestart_pending (s : State) : (latchRestart s).pending = s.pending := rfl
@[simp] theorem latchRestart_resetLow (s : State) : (latchRestart s).resetLow = s.resetLow := rfl
@[simp] theorem latchRestart_pins (s : State) : (latchRestart s).pins = s.pins := rfl
@[simp] theorem latchRestart_addr (s : State) : (latchRestart s).addr = s.addr := rfl
@[simp] theorem latchRestart_role (s : State) : (latchRestart s).role = s.role := rfl
@[simp] theorem latchRestart_profile (s : State) : (latchRestart s).profile = s.profile := rfl
@[simp] theorem latchRestart_li (s : State) : (latchRestart s).li = s.li := rfl
@[simp] theorem latchRestart_sq (s : State) : (latchRestart s).sq = s.sq := rfl
@[simp] theorem latchRestart_lanes (s : State) : (latchRestart s).lanes = s.lanes := rfl
@[simp] theorem latchRestart_mutes (s : State) : (latchRestart s).mutes = s.mutes := rfl
@[simp] theorem latchRestart_viewTicks (s : State) : (latchRestart s).viewTicks = s.viewTicks := rfl
@[simp] theorem latchRestart_window (s : State) : (latchRestart s).window = s.window := rfl
@[simp] theorem latchRestart_mark (s : State) : (latchRestart s).mark = s.mark := rfl
@[simp] theorem latchRestart_ownAsk (s : State) : (latchRestart s).ownAsk = s.ownAsk := rfl
@[simp] theorem latchRestart_order (s : State) : (latchRestart s).order = s.order := rfl
@[simp] theorem latchRestart_seat (s : State) : (latchRestart s).seat = s.seat := rfl
@[simp] theorem latchRestart_flags (s : State) :
    (latchRestart s).flags = { s.flags with cancelLatch := some .restart } := rfl
@[simp] theorem latchRestart_st (s : State) : (latchRestart s).st = s.st := rfl
@[simp] theorem latchRestart_vu (s : State) : (latchRestart s).vu = s.vu := rfl
@[simp] theorem latchRestart_gc (s : State) : (latchRestart s).gc = s.gc := rfl
@[simp] theorem latchRestart_key1 (s : State) : (latchRestart s).key1 = s.key1 := rfl
@[simp] theorem latchRestart_key2 (s : State) : (latchRestart s).key2 = s.key2 := rfl
@[simp] theorem latchRestart_key3 (s : State) : (latchRestart s).key3 = s.key3 := rfl
@[simp] theorem latchRestart_flash (s : State) : (latchRestart s).flash = s.flash := rfl
@[simp] theorem latchRestart_pp (s : State) : (latchRestart s).pp = s.pp := rfl
@[simp] theorem latchRestart_outbox (s : State) : (latchRestart s).outbox = s.outbox := rfl
@[simp] theorem latchRestart_freeCount (s : State) : (latchRestart s).freeCount = s.freeCount := rfl

/-! `setCough`: the cough flag set (R121, R151) -/

@[simp] theorem setCough_pending (s : State) : (setCough s).pending = s.pending := rfl
@[simp] theorem setCough_resetLow (s : State) : (setCough s).resetLow = s.resetLow := rfl
@[simp] theorem setCough_pins (s : State) : (setCough s).pins = s.pins := rfl
@[simp] theorem setCough_addr (s : State) : (setCough s).addr = s.addr := rfl
@[simp] theorem setCough_role (s : State) : (setCough s).role = s.role := rfl
@[simp] theorem setCough_profile (s : State) : (setCough s).profile = s.profile := rfl
@[simp] theorem setCough_li (s : State) : (setCough s).li = s.li := rfl
@[simp] theorem setCough_sq (s : State) : (setCough s).sq = s.sq := rfl
@[simp] theorem setCough_lanes (s : State) : (setCough s).lanes = s.lanes := rfl
@[simp] theorem setCough_mutes (s : State) : (setCough s).mutes = s.mutes := rfl
@[simp] theorem setCough_viewTicks (s : State) : (setCough s).viewTicks = s.viewTicks := rfl
@[simp] theorem setCough_window (s : State) : (setCough s).window = s.window := rfl
@[simp] theorem setCough_mark (s : State) : (setCough s).mark = s.mark := rfl
@[simp] theorem setCough_ownAsk (s : State) : (setCough s).ownAsk = s.ownAsk := rfl
@[simp] theorem setCough_order (s : State) : (setCough s).order = s.order := rfl
@[simp] theorem setCough_seat (s : State) : (setCough s).seat = s.seat := rfl
@[simp] theorem setCough_flags (s : State) : (setCough s).flags = { s.flags with cough := true } := rfl
@[simp] theorem setCough_st (s : State) : (setCough s).st = s.st := rfl
@[simp] theorem setCough_vu (s : State) : (setCough s).vu = { s.vu with attack := 0, release := 0 } := rfl
@[simp] theorem setCough_gc (s : State) : (setCough s).gc = s.gc := rfl
@[simp] theorem setCough_key1 (s : State) : (setCough s).key1 = s.key1 := rfl
@[simp] theorem setCough_key2 (s : State) : (setCough s).key2 = s.key2 := rfl
@[simp] theorem setCough_key3 (s : State) : (setCough s).key3 = s.key3 := rfl
@[simp] theorem setCough_flash (s : State) : (setCough s).flash = s.flash := rfl
@[simp] theorem setCough_pp (s : State) : (setCough s).pp = s.pp := rfl
@[simp] theorem setCough_outbox (s : State) : (setCough s).outbox = s.outbox := rfl
@[simp] theorem setCough_freeCount (s : State) : (setCough s).freeCount = s.freeCount := rfl

/-! `emptyQueue`: every slot emptied (R50) -/

@[simp] theorem emptyQueue_pending (s : State) : (emptyQueue s).pending = s.pending := rfl
@[simp] theorem emptyQueue_resetLow (s : State) : (emptyQueue s).resetLow = s.resetLow := rfl
@[simp] theorem emptyQueue_pins (s : State) : (emptyQueue s).pins = s.pins := rfl
@[simp] theorem emptyQueue_addr (s : State) : (emptyQueue s).addr = s.addr := rfl
@[simp] theorem emptyQueue_role (s : State) : (emptyQueue s).role = s.role := rfl
@[simp] theorem emptyQueue_profile (s : State) : (emptyQueue s).profile = s.profile := rfl
@[simp] theorem emptyQueue_li (s : State) : (emptyQueue s).li = s.li := rfl
@[simp] theorem emptyQueue_sq (s : State) : (emptyQueue s).sq = { SendQ.reset with inFlight := s.sq.inFlight } := rfl
@[simp] theorem emptyQueue_lanes (s : State) : (emptyQueue s).lanes = s.lanes := rfl
@[simp] theorem emptyQueue_mutes (s : State) : (emptyQueue s).mutes = s.mutes := rfl
@[simp] theorem emptyQueue_viewTicks (s : State) : (emptyQueue s).viewTicks = s.viewTicks := rfl
@[simp] theorem emptyQueue_window (s : State) : (emptyQueue s).window = s.window := rfl
@[simp] theorem emptyQueue_mark (s : State) : (emptyQueue s).mark = s.mark := rfl
@[simp] theorem emptyQueue_ownAsk (s : State) : (emptyQueue s).ownAsk = s.ownAsk := rfl
@[simp] theorem emptyQueue_order (s : State) : (emptyQueue s).order = s.order := rfl
@[simp] theorem emptyQueue_seat (s : State) : (emptyQueue s).seat = s.seat := rfl
@[simp] theorem emptyQueue_flags (s : State) : (emptyQueue s).flags = s.flags := rfl
@[simp] theorem emptyQueue_st (s : State) : (emptyQueue s).st = s.st := rfl
@[simp] theorem emptyQueue_vu (s : State) : (emptyQueue s).vu = s.vu := rfl
@[simp] theorem emptyQueue_gc (s : State) : (emptyQueue s).gc = s.gc := rfl
@[simp] theorem emptyQueue_key1 (s : State) : (emptyQueue s).key1 = s.key1 := rfl
@[simp] theorem emptyQueue_key2 (s : State) : (emptyQueue s).key2 = s.key2 := rfl
@[simp] theorem emptyQueue_key3 (s : State) : (emptyQueue s).key3 = s.key3 := rfl
@[simp] theorem emptyQueue_flash (s : State) : (emptyQueue s).flash = s.flash := rfl
@[simp] theorem emptyQueue_pp (s : State) : (emptyQueue s).pp = s.pp := rfl
@[simp] theorem emptyQueue_outbox (s : State) : (emptyQueue s).outbox = s.outbox := rfl
@[simp] theorem emptyQueue_freeCount (s : State) : (emptyQueue s).freeCount = s.freeCount := rfl

/-! `startTrim`: a trim starts (R154) -/

@[simp] theorem startTrim_pending (s : State) : (startTrim s).pending = s.pending := rfl
@[simp] theorem startTrim_resetLow (s : State) : (startTrim s).resetLow = s.resetLow := rfl
@[simp] theorem startTrim_pins (s : State) : (startTrim s).pins = s.pins := rfl
@[simp] theorem startTrim_addr (s : State) : (startTrim s).addr = s.addr := rfl
@[simp] theorem startTrim_role (s : State) : (startTrim s).role = s.role := rfl
@[simp] theorem startTrim_profile (s : State) : (startTrim s).profile = s.profile := rfl
@[simp] theorem startTrim_li (s : State) : (startTrim s).li = s.li := rfl
@[simp] theorem startTrim_sq (s : State) : (startTrim s).sq = s.sq := rfl
@[simp] theorem startTrim_lanes (s : State) : (startTrim s).lanes = s.lanes := rfl
@[simp] theorem startTrim_mutes (s : State) : (startTrim s).mutes = s.mutes := rfl
@[simp] theorem startTrim_viewTicks (s : State) : (startTrim s).viewTicks = s.viewTicks := rfl
@[simp] theorem startTrim_window (s : State) : (startTrim s).window = s.window := rfl
@[simp] theorem startTrim_mark (s : State) : (startTrim s).mark = s.mark := rfl
@[simp] theorem startTrim_ownAsk (s : State) : (startTrim s).ownAsk = s.ownAsk := rfl
@[simp] theorem startTrim_order (s : State) : (startTrim s).order = s.order := rfl
@[simp] theorem startTrim_seat (s : State) : (startTrim s).seat = s.seat := rfl
@[simp] theorem startTrim_flags (s : State) : (startTrim s).flags = s.flags := rfl
@[simp] theorem startTrim_st (s : State) : (startTrim s).st = s.st := rfl
@[simp] theorem startTrim_vu (s : State) :
    (startTrim s).vu = { s.vu with trim := some { count := 0, sum := 0 } } := rfl
@[simp] theorem startTrim_gc (s : State) : (startTrim s).gc = s.gc := rfl
@[simp] theorem startTrim_key1 (s : State) : (startTrim s).key1 = s.key1 := rfl
@[simp] theorem startTrim_key2 (s : State) : (startTrim s).key2 = s.key2 := rfl
@[simp] theorem startTrim_key3 (s : State) : (startTrim s).key3 = s.key3 := rfl
@[simp] theorem startTrim_flash (s : State) : (startTrim s).flash = s.flash := rfl
@[simp] theorem startTrim_pp (s : State) : (startTrim s).pp = s.pp := rfl
@[simp] theorem startTrim_outbox (s : State) : (startTrim s).outbox = s.outbox := rfl
@[simp] theorem startTrim_freeCount (s : State) : (startTrim s).freeCount = s.freeCount := rfl

/-! `askLive`: the Own Ask becomes LIVE (R82) -/

@[simp] theorem askLive_pending (t : Nat) (s : State) : (askLive t s).pending = s.pending := rfl
@[simp] theorem askLive_resetLow (t : Nat) (s : State) : (askLive t s).resetLow = s.resetLow := rfl
@[simp] theorem askLive_pins (t : Nat) (s : State) : (askLive t s).pins = s.pins := rfl
@[simp] theorem askLive_addr (t : Nat) (s : State) : (askLive t s).addr = s.addr := rfl
@[simp] theorem askLive_role (t : Nat) (s : State) : (askLive t s).role = s.role := rfl
@[simp] theorem askLive_profile (t : Nat) (s : State) : (askLive t s).profile = s.profile := rfl
@[simp] theorem askLive_li (t : Nat) (s : State) : (askLive t s).li = s.li := rfl
@[simp] theorem askLive_sq (t : Nat) (s : State) : (askLive t s).sq = s.sq := rfl
@[simp] theorem askLive_lanes (t : Nat) (s : State) : (askLive t s).lanes = s.lanes := rfl
@[simp] theorem askLive_mutes (t : Nat) (s : State) : (askLive t s).mutes = s.mutes := rfl
@[simp] theorem askLive_viewTicks (t : Nat) (s : State) : (askLive t s).viewTicks = s.viewTicks := rfl
@[simp] theorem askLive_window (t : Nat) (s : State) : (askLive t s).window = s.window := rfl
@[simp] theorem askLive_mark (t : Nat) (s : State) : (askLive t s).mark = s.mark := rfl
@[simp] theorem askLive_ownAsk (t : Nat) (s : State) : (askLive t s).ownAsk = .live t := rfl
@[simp] theorem askLive_order (t : Nat) (s : State) : (askLive t s).order = s.order := rfl
@[simp] theorem askLive_seat (t : Nat) (s : State) : (askLive t s).seat = s.seat := rfl
@[simp] theorem askLive_flags (t : Nat) (s : State) : (askLive t s).flags = s.flags := rfl
@[simp] theorem askLive_st (t : Nat) (s : State) : (askLive t s).st = { s.st with waitMeter := 0 } := rfl
@[simp] theorem askLive_vu (t : Nat) (s : State) : (askLive t s).vu = s.vu := rfl
@[simp] theorem askLive_gc (t : Nat) (s : State) : (askLive t s).gc = s.gc := rfl
@[simp] theorem askLive_key1 (t : Nat) (s : State) : (askLive t s).key1 = s.key1 := rfl
@[simp] theorem askLive_key2 (t : Nat) (s : State) : (askLive t s).key2 = s.key2 := rfl
@[simp] theorem askLive_key3 (t : Nat) (s : State) : (askLive t s).key3 = s.key3 := rfl
@[simp] theorem askLive_flash (t : Nat) (s : State) : (askLive t s).flash = s.flash := rfl
@[simp] theorem askLive_pp (t : Nat) (s : State) : (askLive t s).pp = s.pp := rfl
@[simp] theorem askLive_outbox (t : Nat) (s : State) :
    (askLive t s).outbox = s.outbox ++ [{ block := .rl, event := .askLive t }] := rfl
@[simp] theorem askLive_freeCount (t : Nat) (s : State) : (askLive t s).freeCount = s.freeCount := rfl

/-! `launch`: a frame loaded for sending (R4, R5) -/

@[simp] theorem launch_pending (fl : Flight) (s : State) : (launch fl s).pending = s.pending := rfl
@[simp] theorem launch_resetLow (fl : Flight) (s : State) : (launch fl s).resetLow = s.resetLow := rfl
@[simp] theorem launch_pins (fl : Flight) (s : State) : (launch fl s).pins = s.pins := rfl
@[simp] theorem launch_addr (fl : Flight) (s : State) : (launch fl s).addr = s.addr := rfl
@[simp] theorem launch_role (fl : Flight) (s : State) : (launch fl s).role = s.role := rfl
@[simp] theorem launch_profile (fl : Flight) (s : State) : (launch fl s).profile = s.profile := rfl
@[simp] theorem launch_li (fl : Flight) (s : State) :
    (launch fl s).li =
      { s.li with status := .lead, leadBits := 0, runValue := true, runLength := 0, rx := [],
                    crc := 0xFFFF, tx := fl.frame.image, bitFault := false, objecting := false } := rfl
@[simp] theorem launch_sq (fl : Flight) (s : State) : (launch fl s).sq = { s.sq with inFlight := some fl } := rfl
@[simp] theorem launch_lanes (fl : Flight) (s : State) : (launch fl s).lanes = s.lanes := rfl
@[simp] theorem launch_mutes (fl : Flight) (s : State) : (launch fl s).mutes = s.mutes := rfl
@[simp] theorem launch_viewTicks (fl : Flight) (s : State) : (launch fl s).viewTicks = s.viewTicks := rfl
@[simp] theorem launch_window (fl : Flight) (s : State) : (launch fl s).window = s.window := rfl
@[simp] theorem launch_mark (fl : Flight) (s : State) : (launch fl s).mark = s.mark := rfl
@[simp] theorem launch_ownAsk (fl : Flight) (s : State) : (launch fl s).ownAsk = s.ownAsk := rfl
@[simp] theorem launch_order (fl : Flight) (s : State) : (launch fl s).order = s.order := rfl
@[simp] theorem launch_seat (fl : Flight) (s : State) : (launch fl s).seat = s.seat := rfl
@[simp] theorem launch_flags (fl : Flight) (s : State) : (launch fl s).flags = s.flags := rfl
@[simp] theorem launch_st (fl : Flight) (s : State) : (launch fl s).st = s.st := rfl
@[simp] theorem launch_vu (fl : Flight) (s : State) : (launch fl s).vu = s.vu := rfl
@[simp] theorem launch_gc (fl : Flight) (s : State) : (launch fl s).gc = s.gc := rfl
@[simp] theorem launch_key1 (fl : Flight) (s : State) : (launch fl s).key1 = s.key1 := rfl
@[simp] theorem launch_key2 (fl : Flight) (s : State) : (launch fl s).key2 = s.key2 := rfl
@[simp] theorem launch_key3 (fl : Flight) (s : State) : (launch fl s).key3 = s.key3 := rfl
@[simp] theorem launch_flash (fl : Flight) (s : State) : (launch fl s).flash = s.flash := rfl
@[simp] theorem launch_pp (fl : Flight) (s : State) : (launch fl s).pp = s.pp := rfl
@[simp] theorem launch_outbox (fl : Flight) (s : State) : (launch fl s).outbox = s.outbox := rfl
@[simp] theorem launch_freeCount (fl : Flight) (s : State) : (launch fl s).freeCount = s.freeCount := rfl

/-! `deselect`: PSEL rises (R179) -/

@[simp] theorem deselect_pending (s : State) : (deselect s).pending = s.pending := rfl
@[simp] theorem deselect_resetLow (s : State) : (deselect s).resetLow = s.resetLow := rfl
@[simp] theorem deselect_pins (s : State) : (deselect s).pins = s.pins := rfl
@[simp] theorem deselect_addr (s : State) : (deselect s).addr = s.addr := rfl
@[simp] theorem deselect_role (s : State) : (deselect s).role = s.role := rfl
@[simp] theorem deselect_profile (s : State) : (deselect s).profile = s.profile := rfl
@[simp] theorem deselect_li (s : State) : (deselect s).li = s.li := rfl
@[simp] theorem deselect_sq (s : State) : (deselect s).sq = s.sq := rfl
@[simp] theorem deselect_lanes (s : State) : (deselect s).lanes = s.lanes := rfl
@[simp] theorem deselect_mutes (s : State) : (deselect s).mutes = s.mutes := rfl
@[simp] theorem deselect_viewTicks (s : State) : (deselect s).viewTicks = s.viewTicks := rfl
@[simp] theorem deselect_window (s : State) : (deselect s).window = s.window := rfl
@[simp] theorem deselect_mark (s : State) : (deselect s).mark = s.mark := rfl
@[simp] theorem deselect_ownAsk (s : State) : (deselect s).ownAsk = s.ownAsk := rfl
@[simp] theorem deselect_order (s : State) : (deselect s).order = s.order := rfl
@[simp] theorem deselect_seat (s : State) : (deselect s).seat = s.seat := rfl
@[simp] theorem deselect_flags (s : State) : (deselect s).flags = s.flags := rfl
@[simp] theorem deselect_st (s : State) : (deselect s).st = s.st := rfl
@[simp] theorem deselect_vu (s : State) : (deselect s).vu = s.vu := rfl
@[simp] theorem deselect_gc (s : State) : (deselect s).gc = s.gc := rfl
@[simp] theorem deselect_key1 (s : State) : (deselect s).key1 = s.key1 := rfl
@[simp] theorem deselect_key2 (s : State) : (deselect s).key2 = s.key2 := rfl
@[simp] theorem deselect_key3 (s : State) : (deselect s).key3 = s.key3 := rfl
@[simp] theorem deselect_flash (s : State) : (deselect s).flash = s.flash := rfl
@[simp] theorem deselect_pp (s : State) :
    (deselect s).pp =
      { s.pp with psel := false, shift := none, pdoBit := false, reading := false, transaction := none } := rfl
@[simp] theorem deselect_outbox (s : State) : (deselect s).outbox = s.outbox := rfl
@[simp] theorem deselect_freeCount (s : State) : (deselect s).freeCount = s.freeCount := rfl

/-! `pselFall`: PSEL falls (R179) -/

@[simp] theorem pselFall_pending (s : State) : (pselFall s).pending = s.pending := rfl
@[simp] theorem pselFall_resetLow (s : State) : (pselFall s).resetLow = s.resetLow := rfl
@[simp] theorem pselFall_pins (s : State) : (pselFall s).pins = s.pins := rfl
@[simp] theorem pselFall_addr (s : State) : (pselFall s).addr = s.addr := rfl
@[simp] theorem pselFall_role (s : State) : (pselFall s).role = s.role := rfl
@[simp] theorem pselFall_profile (s : State) : (pselFall s).profile = s.profile := rfl
@[simp] theorem pselFall_li (s : State) : (pselFall s).li = s.li := rfl
@[simp] theorem pselFall_sq (s : State) : (pselFall s).sq = s.sq := rfl
@[simp] theorem pselFall_lanes (s : State) : (pselFall s).lanes = s.lanes := rfl
@[simp] theorem pselFall_mutes (s : State) : (pselFall s).mutes = s.mutes := rfl
@[simp] theorem pselFall_viewTicks (s : State) : (pselFall s).viewTicks = s.viewTicks := rfl
@[simp] theorem pselFall_window (s : State) : (pselFall s).window = s.window := rfl
@[simp] theorem pselFall_mark (s : State) : (pselFall s).mark = s.mark := rfl
@[simp] theorem pselFall_ownAsk (s : State) : (pselFall s).ownAsk = s.ownAsk := rfl
@[simp] theorem pselFall_order (s : State) : (pselFall s).order = s.order := rfl
@[simp] theorem pselFall_seat (s : State) : (pselFall s).seat = s.seat := rfl
@[simp] theorem pselFall_flags (s : State) : (pselFall s).flags = s.flags := rfl
@[simp] theorem pselFall_st (s : State) : (pselFall s).st = s.st := rfl
@[simp] theorem pselFall_vu (s : State) : (pselFall s).vu = s.vu := rfl
@[simp] theorem pselFall_gc (s : State) : (pselFall s).gc = s.gc := rfl
@[simp] theorem pselFall_key1 (s : State) : (pselFall s).key1 = s.key1 := rfl
@[simp] theorem pselFall_key2 (s : State) : (pselFall s).key2 = s.key2 := rfl
@[simp] theorem pselFall_key3 (s : State) : (pselFall s).key3 = s.key3 := rfl
@[simp] theorem pselFall_flash (s : State) : (pselFall s).flash = s.flash := rfl
@[simp] theorem pselFall_pp (s : State) :
    (pselFall s).pp =
      { s.pp with psel := true, shift := some [], pdoBit := false, reading := false, transaction := none } := rfl
@[simp] theorem pselFall_outbox (s : State) : (pselFall s).outbox = s.outbox := rfl
@[simp] theorem pselFall_freeCount (s : State) : (pselFall s).freeCount = s.freeCount := rfl

/-! `pclkFall`: PDO changes (R179) -/

@[simp] theorem pclkFall_pending (s : State) : (pclkFall s).pending = s.pending := rfl
@[simp] theorem pclkFall_resetLow (s : State) : (pclkFall s).resetLow = s.resetLow := rfl
@[simp] theorem pclkFall_pins (s : State) : (pclkFall s).pins = s.pins := rfl
@[simp] theorem pclkFall_addr (s : State) : (pclkFall s).addr = s.addr := rfl
@[simp] theorem pclkFall_role (s : State) : (pclkFall s).role = s.role := rfl
@[simp] theorem pclkFall_profile (s : State) : (pclkFall s).profile = s.profile := rfl
@[simp] theorem pclkFall_li (s : State) : (pclkFall s).li = s.li := rfl
@[simp] theorem pclkFall_sq (s : State) : (pclkFall s).sq = s.sq := rfl
@[simp] theorem pclkFall_lanes (s : State) : (pclkFall s).lanes = s.lanes := rfl
@[simp] theorem pclkFall_mutes (s : State) : (pclkFall s).mutes = s.mutes := rfl
@[simp] theorem pclkFall_viewTicks (s : State) : (pclkFall s).viewTicks = s.viewTicks := rfl
@[simp] theorem pclkFall_window (s : State) : (pclkFall s).window = s.window := rfl
@[simp] theorem pclkFall_mark (s : State) : (pclkFall s).mark = s.mark := rfl
@[simp] theorem pclkFall_ownAsk (s : State) : (pclkFall s).ownAsk = s.ownAsk := rfl
@[simp] theorem pclkFall_order (s : State) : (pclkFall s).order = s.order := rfl
@[simp] theorem pclkFall_seat (s : State) : (pclkFall s).seat = s.seat := rfl
@[simp] theorem pclkFall_flags (s : State) : (pclkFall s).flags = s.flags := rfl
@[simp] theorem pclkFall_st (s : State) : (pclkFall s).st = s.st := rfl
@[simp] theorem pclkFall_vu (s : State) : (pclkFall s).vu = s.vu := rfl
@[simp] theorem pclkFall_gc (s : State) : (pclkFall s).gc = s.gc := rfl
@[simp] theorem pclkFall_key1 (s : State) : (pclkFall s).key1 = s.key1 := rfl
@[simp] theorem pclkFall_key2 (s : State) : (pclkFall s).key2 = s.key2 := rfl
@[simp] theorem pclkFall_key3 (s : State) : (pclkFall s).key3 = s.key3 := rfl
@[simp] theorem pclkFall_flash (s : State) : (pclkFall s).flash = s.flash := rfl
@[simp] theorem pclkFall_pp (s : State) :
    (pclkFall s).pp =
      { s.pp with pdoBit := match s.pp.transaction with | some t => t.outBit t.clocked | none => false } := rfl
@[simp] theorem pclkFall_outbox (s : State) : (pclkFall s).outbox = s.outbox := rfl
@[simp] theorem pclkFall_freeCount (s : State) : (pclkFall s).freeCount = s.freeCount := rfl

/-! `assertReset`: RST_N goes low (R20, R161) -/

@[simp] theorem assertReset_pending (s : State) : (assertReset s).pending = s.pending := rfl
@[simp] theorem assertReset_resetLow (s : State) : (assertReset s).resetLow = true := rfl
@[simp] theorem assertReset_pins (s : State) : (assertReset s).pins = s.pins := rfl
@[simp] theorem assertReset_addr (s : State) : (assertReset s).addr = s.addr := rfl
@[simp] theorem assertReset_role (s : State) : (assertReset s).role = s.role := rfl
@[simp] theorem assertReset_profile (s : State) : (assertReset s).profile = s.profile := rfl
@[simp] theorem assertReset_li (s : State) : (assertReset s).li = s.li := rfl
@[simp] theorem assertReset_sq (s : State) : (assertReset s).sq = s.sq := rfl
@[simp] theorem assertReset_lanes (s : State) : (assertReset s).lanes = s.lanes := rfl
@[simp] theorem assertReset_mutes (s : State) : (assertReset s).mutes = s.mutes := rfl
@[simp] theorem assertReset_viewTicks (s : State) : (assertReset s).viewTicks = s.viewTicks := rfl
@[simp] theorem assertReset_window (s : State) : (assertReset s).window = s.window := rfl
@[simp] theorem assertReset_mark (s : State) : (assertReset s).mark = s.mark := rfl
@[simp] theorem assertReset_ownAsk (s : State) : (assertReset s).ownAsk = s.ownAsk := rfl
@[simp] theorem assertReset_order (s : State) : (assertReset s).order = s.order := rfl
@[simp] theorem assertReset_seat (s : State) : (assertReset s).seat = s.seat := rfl
@[simp] theorem assertReset_flags (s : State) : (assertReset s).flags = s.flags := rfl
@[simp] theorem assertReset_st (s : State) : (assertReset s).st = s.st := rfl
@[simp] theorem assertReset_vu (s : State) : (assertReset s).vu = s.vu := rfl
@[simp] theorem assertReset_gc (s : State) : (assertReset s).gc = { s.gc with laneSel := 0, spkMute := false } := rfl
@[simp] theorem assertReset_key1 (s : State) : (assertReset s).key1 = s.key1 := rfl
@[simp] theorem assertReset_key2 (s : State) : (assertReset s).key2 = s.key2 := rfl
@[simp] theorem assertReset_key3 (s : State) : (assertReset s).key3 = s.key3 := rfl
@[simp] theorem assertReset_flash (s : State) : (assertReset s).flash = s.flash := rfl
@[simp] theorem assertReset_pp (s : State) : (assertReset s).pp = s.pp := rfl
@[simp] theorem assertReset_outbox (s : State) : (assertReset s).outbox = s.outbox := rfl
@[simp] theorem assertReset_freeCount (s : State) : (assertReset s).freeCount = s.freeCount := rfl

end Sys2Proof.Machine
end

