-- ==== Sys2Proof/Laws/Ops.lean ====
section
/-! SUPPORT. What each shared operation leaves as it was, said once: a conjunction that `simp` reads field by field. -/

namespace Sys2Proof.Machine

open Sys2Proof

/-- `flush` (R185: the end of an instant) changes pp, outbox, freeCount alone. -/
@[simp] theorem flush_keeps (s : State) :
    (flush s).pending = s.pending ∧ (flush s).resetLow = s.resetLow ∧ (flush s).pins = s.pins ∧
    (flush s).addr = s.addr ∧ (flush s).role = s.role ∧ (flush s).profile = s.profile ∧ (flush s).li = s.li ∧
    (flush s).sq = s.sq ∧ (flush s).lanes = s.lanes ∧ (flush s).mutes = s.mutes ∧
    (flush s).viewTicks = s.viewTicks ∧ (flush s).window = s.window ∧ (flush s).mark = s.mark ∧
    (flush s).ownAsk = s.ownAsk ∧ (flush s).order = s.order ∧ (flush s).seat = s.seat ∧ (flush s).flags = s.flags ∧
    (flush s).st = s.st ∧ (flush s).vu = s.vu ∧ (flush s).gc = s.gc ∧ (flush s).key1 = s.key1 ∧
    (flush s).key2 = s.key2 ∧ (flush s).key3 = s.key3 ∧ (flush s).flash = s.flash := by
  unfold flush; split <;> simp

/-- `offerFeed` (R187) changes pp alone. -/
@[simp] theorem offerFeed_keeps (own : Bool) (f : Frame) (s : State) :
    (offerFeed own f s).pending = s.pending ∧ (offerFeed own f s).resetLow = s.resetLow ∧
    (offerFeed own f s).pins = s.pins ∧ (offerFeed own f s).addr = s.addr ∧ (offerFeed own f s).role = s.role ∧
    (offerFeed own f s).profile = s.profile ∧ (offerFeed own f s).li = s.li ∧ (offerFeed own f s).sq = s.sq ∧
    (offerFeed own f s).lanes = s.lanes ∧ (offerFeed own f s).mutes = s.mutes ∧
    (offerFeed own f s).viewTicks = s.viewTicks ∧ (offerFeed own f s).window = s.window ∧
    (offerFeed own f s).mark = s.mark ∧ (offerFeed own f s).ownAsk = s.ownAsk ∧
    (offerFeed own f s).order = s.order ∧ (offerFeed own f s).seat = s.seat ∧ (offerFeed own f s).flags = s.flags ∧
    (offerFeed own f s).st = s.st ∧ (offerFeed own f s).vu = s.vu ∧ (offerFeed own f s).gc = s.gc ∧
    (offerFeed own f s).key1 = s.key1 ∧ (offerFeed own f s).key2 = s.key2 ∧ (offerFeed own f s).key3 = s.key3 ∧
    (offerFeed own f s).flash = s.flash ∧ (offerFeed own f s).outbox = s.outbox ∧
    (offerFeed own f s).freeCount = s.freeCount := by
  unfold offerFeed; split <;> (try split) <;> simp

/-- `refuse` (R112) changes flash, outbox alone. -/
@[simp] theorem refuse_keeps (r : Refused) (s : State) :
    (refuse r s).pending = s.pending ∧ (refuse r s).resetLow = s.resetLow ∧ (refuse r s).pins = s.pins ∧
    (refuse r s).addr = s.addr ∧ (refuse r s).role = s.role ∧ (refuse r s).profile = s.profile ∧
    (refuse r s).li = s.li ∧ (refuse r s).sq = s.sq ∧ (refuse r s).lanes = s.lanes ∧ (refuse r s).mutes = s.mutes ∧
    (refuse r s).viewTicks = s.viewTicks ∧ (refuse r s).window = s.window ∧ (refuse r s).mark = s.mark ∧
    (refuse r s).ownAsk = s.ownAsk ∧ (refuse r s).order = s.order ∧ (refuse r s).seat = s.seat ∧
    (refuse r s).flags = s.flags ∧ (refuse r s).st = s.st ∧ (refuse r s).vu = s.vu ∧ (refuse r s).gc = s.gc ∧
    (refuse r s).key1 = s.key1 ∧ (refuse r s).key2 = s.key2 ∧ (refuse r s).key3 = s.key3 ∧ (refuse r s).pp = s.pp ∧
    (refuse r s).freeCount = s.freeCount := by
  simp [refuse]

/-- `abortTrim` (R156) changes vu, outbox alone. -/
@[simp] theorem abortTrim_keeps (r : TrimAbort) (s : State) :
    (abortTrim r s).pending = s.pending ∧ (abortTrim r s).resetLow = s.resetLow ∧ (abortTrim r s).pins = s.pins ∧
    (abortTrim r s).addr = s.addr ∧ (abortTrim r s).role = s.role ∧ (abortTrim r s).profile = s.profile ∧
    (abortTrim r s).li = s.li ∧ (abortTrim r s).sq = s.sq ∧ (abortTrim r s).lanes = s.lanes ∧
    (abortTrim r s).mutes = s.mutes ∧ (abortTrim r s).viewTicks = s.viewTicks ∧ (abortTrim r s).window = s.window ∧
    (abortTrim r s).mark = s.mark ∧ (abortTrim r s).ownAsk = s.ownAsk ∧ (abortTrim r s).order = s.order ∧
    (abortTrim r s).seat = s.seat ∧ (abortTrim r s).flags = s.flags ∧ (abortTrim r s).st = s.st ∧
    (abortTrim r s).gc = s.gc ∧ (abortTrim r s).key1 = s.key1 ∧ (abortTrim r s).key2 = s.key2 ∧
    (abortTrim r s).key3 = s.key3 ∧ (abortTrim r s).flash = s.flash ∧ (abortTrim r s).pp = s.pp ∧
    (abortTrim r s).freeCount = s.freeCount := by
  unfold abortTrim; split <;> simp

/-- `startTail` (R159) changes gc alone. -/
@[simp] theorem startTail_keeps (s : State) :
    (startTail s).pending = s.pending ∧ (startTail s).resetLow = s.resetLow ∧ (startTail s).pins = s.pins ∧
    (startTail s).addr = s.addr ∧ (startTail s).role = s.role ∧ (startTail s).profile = s.profile ∧
    (startTail s).li = s.li ∧ (startTail s).sq = s.sq ∧ (startTail s).lanes = s.lanes ∧
    (startTail s).mutes = s.mutes ∧ (startTail s).viewTicks = s.viewTicks ∧ (startTail s).window = s.window ∧
    (startTail s).mark = s.mark ∧ (startTail s).ownAsk = s.ownAsk ∧ (startTail s).order = s.order ∧
    (startTail s).seat = s.seat ∧ (startTail s).flags = s.flags ∧ (startTail s).st = s.st ∧
    (startTail s).vu = s.vu ∧ (startTail s).key1 = s.key1 ∧ (startTail s).key2 = s.key2 ∧
    (startTail s).key3 = s.key3 ∧ (startTail s).flash = s.flash ∧ (startTail s).pp = s.pp ∧
    (startTail s).outbox = s.outbox ∧ (startTail s).freeCount = s.freeCount := by
  unfold startTail; split <;> simp

/-- `enterIdle` (the seat enters IDLE) changes seat, gc alone. -/
@[simp] theorem enterIdle_keeps (s : State) :
    (enterIdle s).pending = s.pending ∧ (enterIdle s).resetLow = s.resetLow ∧ (enterIdle s).pins = s.pins ∧
    (enterIdle s).addr = s.addr ∧ (enterIdle s).role = s.role ∧ (enterIdle s).profile = s.profile ∧
    (enterIdle s).li = s.li ∧ (enterIdle s).sq = s.sq ∧ (enterIdle s).lanes = s.lanes ∧
    (enterIdle s).mutes = s.mutes ∧ (enterIdle s).viewTicks = s.viewTicks ∧ (enterIdle s).window = s.window ∧
    (enterIdle s).mark = s.mark ∧ (enterIdle s).ownAsk = s.ownAsk ∧ (enterIdle s).order = s.order ∧
    (enterIdle s).flags = s.flags ∧ (enterIdle s).st = s.st ∧ (enterIdle s).vu = s.vu ∧
    (enterIdle s).key1 = s.key1 ∧ (enterIdle s).key2 = s.key2 ∧ (enterIdle s).key3 = s.key3 ∧
    (enterIdle s).flash = s.flash ∧ (enterIdle s).pp = s.pp ∧ (enterIdle s).outbox = s.outbox ∧
    (enterIdle s).freeCount = s.freeCount := by
  simp only [enterIdle]; split <;> simp

/-- `enterListen` (the seat enters LISTEN) changes seat, gc alone. -/
@[simp] theorem enterListen_keeps (s : State) :
    (enterListen s).pending = s.pending ∧ (enterListen s).resetLow = s.resetLow ∧ (enterListen s).pins = s.pins ∧
    (enterListen s).addr = s.addr ∧ (enterListen s).role = s.role ∧ (enterListen s).profile = s.profile ∧
    (enterListen s).li = s.li ∧ (enterListen s).sq = s.sq ∧ (enterListen s).lanes = s.lanes ∧
    (enterListen s).mutes = s.mutes ∧ (enterListen s).viewTicks = s.viewTicks ∧ (enterListen s).window = s.window ∧
    (enterListen s).mark = s.mark ∧ (enterListen s).ownAsk = s.ownAsk ∧ (enterListen s).order = s.order ∧
    (enterListen s).flags = s.flags ∧ (enterListen s).st = s.st ∧ (enterListen s).vu = s.vu ∧
    (enterListen s).key1 = s.key1 ∧ (enterListen s).key2 = s.key2 ∧ (enterListen s).key3 = s.key3 ∧
    (enterListen s).flash = s.flash ∧ (enterListen s).pp = s.pp ∧ (enterListen s).outbox = s.outbox ∧
    (enterListen s).freeCount = s.freeCount := by
  simp only [enterListen]; split <;> simp

/-- `enterTaking` (the seat enters TAKING) changes seat, vu, outbox alone. -/
@[simp] theorem enterTaking_keeps (t : IntendedTake) (s : State) :
    (enterTaking t s).pending = s.pending ∧ (enterTaking t s).resetLow = s.resetLow ∧
    (enterTaking t s).pins = s.pins ∧ (enterTaking t s).addr = s.addr ∧ (enterTaking t s).role = s.role ∧
    (enterTaking t s).profile = s.profile ∧ (enterTaking t s).li = s.li ∧ (enterTaking t s).sq = s.sq ∧
    (enterTaking t s).lanes = s.lanes ∧ (enterTaking t s).mutes = s.mutes ∧
    (enterTaking t s).viewTicks = s.viewTicks ∧ (enterTaking t s).window = s.window ∧
    (enterTaking t s).mark = s.mark ∧ (enterTaking t s).ownAsk = s.ownAsk ∧ (enterTaking t s).order = s.order ∧
    (enterTaking t s).flags = s.flags ∧ (enterTaking t s).st = s.st ∧ (enterTaking t s).gc = s.gc ∧
    (enterTaking t s).key1 = s.key1 ∧ (enterTaking t s).key2 = s.key2 ∧ (enterTaking t s).key3 = s.key3 ∧
    (enterTaking t s).flash = s.flash ∧ (enterTaking t s).pp = s.pp ∧ (enterTaking t s).freeCount = s.freeCount := by
  simp [enterTaking]

/-- `speechStart` (R136) changes st alone. -/
@[simp] theorem speechStart_keeps (s : State) :
    (speechStart s).pending = s.pending ∧ (speechStart s).resetLow = s.resetLow ∧ (speechStart s).pins = s.pins ∧
    (speechStart s).addr = s.addr ∧ (speechStart s).role = s.role ∧ (speechStart s).profile = s.profile ∧
    (speechStart s).li = s.li ∧ (speechStart s).sq = s.sq ∧ (speechStart s).lanes = s.lanes ∧
    (speechStart s).mutes = s.mutes ∧ (speechStart s).viewTicks = s.viewTicks ∧ (speechStart s).window = s.window ∧
    (speechStart s).mark = s.mark ∧ (speechStart s).ownAsk = s.ownAsk ∧ (speechStart s).order = s.order ∧
    (speechStart s).seat = s.seat ∧ (speechStart s).flags = s.flags ∧ (speechStart s).vu = s.vu ∧
    (speechStart s).gc = s.gc ∧ (speechStart s).key1 = s.key1 ∧ (speechStart s).key2 = s.key2 ∧
    (speechStart s).key3 = s.key3 ∧ (speechStart s).flash = s.flash ∧ (speechStart s).pp = s.pp ∧
    (speechStart s).outbox = s.outbox ∧ (speechStart s).freeCount = s.freeCount := by
  simp [speechStart]

/-- `speechEnd` (R144) changes st, gc alone. -/
@[simp] theorem speechEnd_keeps (s : State) :
    (speechEnd s).pending = s.pending ∧ (speechEnd s).resetLow = s.resetLow ∧ (speechEnd s).pins = s.pins ∧
    (speechEnd s).addr = s.addr ∧ (speechEnd s).role = s.role ∧ (speechEnd s).profile = s.profile ∧
    (speechEnd s).li = s.li ∧ (speechEnd s).sq = s.sq ∧ (speechEnd s).lanes = s.lanes ∧
    (speechEnd s).mutes = s.mutes ∧ (speechEnd s).viewTicks = s.viewTicks ∧ (speechEnd s).window = s.window ∧
    (speechEnd s).mark = s.mark ∧ (speechEnd s).ownAsk = s.ownAsk ∧ (speechEnd s).order = s.order ∧
    (speechEnd s).seat = s.seat ∧ (speechEnd s).flags = s.flags ∧ (speechEnd s).vu = s.vu ∧
    (speechEnd s).key1 = s.key1 ∧ (speechEnd s).key2 = s.key2 ∧ (speechEnd s).key3 = s.key3 ∧
    (speechEnd s).flash = s.flash ∧ (speechEnd s).pp = s.pp ∧ (speechEnd s).outbox = s.outbox ∧
    (speechEnd s).freeCount = s.freeCount := by
  simp [speechEnd]

/-- `timerMute` (R141) changes st alone. -/
@[simp] theorem timerMute_keeps (active : Bool) (s : State) :
    (timerMute active s).pending = s.pending ∧ (timerMute active s).resetLow = s.resetLow ∧
    (timerMute active s).pins = s.pins ∧ (timerMute active s).addr = s.addr ∧ (timerMute active s).role = s.role ∧
    (timerMute active s).profile = s.profile ∧ (timerMute active s).li = s.li ∧ (timerMute active s).sq = s.sq ∧
    (timerMute active s).lanes = s.lanes ∧ (timerMute active s).mutes = s.mutes ∧
    (timerMute active s).viewTicks = s.viewTicks ∧ (timerMute active s).window = s.window ∧
    (timerMute active s).mark = s.mark ∧ (timerMute active s).ownAsk = s.ownAsk ∧
    (timerMute active s).order = s.order ∧ (timerMute active s).seat = s.seat ∧
    (timerMute active s).flags = s.flags ∧ (timerMute active s).vu = s.vu ∧ (timerMute active s).gc = s.gc ∧
    (timerMute active s).key1 = s.key1 ∧ (timerMute active s).key2 = s.key2 ∧ (timerMute active s).key3 = s.key3 ∧
    (timerMute active s).flash = s.flash ∧ (timerMute active s).pp = s.pp ∧ (timerMute active s).outbox = s.outbox ∧
    (timerMute active s).freeCount = s.freeCount := by
  unfold timerMute; split <;> simp

/-- `endOwnAsk` (R83) changes ownAsk, st, outbox alone. -/
@[simp] theorem endOwnAsk_keeps (r : AskEnd) (s : State) :
    (endOwnAsk r s).pending = s.pending ∧ (endOwnAsk r s).resetLow = s.resetLow ∧ (endOwnAsk r s).pins = s.pins ∧
    (endOwnAsk r s).addr = s.addr ∧ (endOwnAsk r s).role = s.role ∧ (endOwnAsk r s).profile = s.profile ∧
    (endOwnAsk r s).li = s.li ∧ (endOwnAsk r s).sq = s.sq ∧ (endOwnAsk r s).lanes = s.lanes ∧
    (endOwnAsk r s).mutes = s.mutes ∧ (endOwnAsk r s).viewTicks = s.viewTicks ∧ (endOwnAsk r s).window = s.window ∧
    (endOwnAsk r s).mark = s.mark ∧ (endOwnAsk r s).order = s.order ∧ (endOwnAsk r s).seat = s.seat ∧
    (endOwnAsk r s).flags = s.flags ∧ (endOwnAsk r s).vu = s.vu ∧ (endOwnAsk r s).gc = s.gc ∧
    (endOwnAsk r s).key1 = s.key1 ∧ (endOwnAsk r s).key2 = s.key2 ∧ (endOwnAsk r s).key3 = s.key3 ∧
    (endOwnAsk r s).flash = s.flash ∧ (endOwnAsk r s).pp = s.pp ∧ (endOwnAsk r s).freeCount = s.freeCount := by
  unfold endOwnAsk; split <;> simp

/-- `placeFloor` (R44) changes sq alone. -/
@[simp] theorem placeFloor_keeps (c : FloorFrame) (s : State) :
    (placeFloor c s).pending = s.pending ∧ (placeFloor c s).resetLow = s.resetLow ∧ (placeFloor c s).pins = s.pins ∧
    (placeFloor c s).addr = s.addr ∧ (placeFloor c s).role = s.role ∧ (placeFloor c s).profile = s.profile ∧
    (placeFloor c s).li = s.li ∧ (placeFloor c s).lanes = s.lanes ∧ (placeFloor c s).mutes = s.mutes ∧
    (placeFloor c s).viewTicks = s.viewTicks ∧ (placeFloor c s).window = s.window ∧ (placeFloor c s).mark = s.mark ∧
    (placeFloor c s).ownAsk = s.ownAsk ∧ (placeFloor c s).order = s.order ∧ (placeFloor c s).seat = s.seat ∧
    (placeFloor c s).flags = s.flags ∧ (placeFloor c s).st = s.st ∧ (placeFloor c s).vu = s.vu ∧
    (placeFloor c s).gc = s.gc ∧ (placeFloor c s).key1 = s.key1 ∧ (placeFloor c s).key2 = s.key2 ∧
    (placeFloor c s).key3 = s.key3 ∧ (placeFloor c s).flash = s.flash ∧ (placeFloor c s).pp = s.pp ∧
    (placeFloor c s).outbox = s.outbox ∧ (placeFloor c s).freeCount = s.freeCount := by
  unfold placeFloor; split <;> simp

/-- `removeFloor` (R44) changes sq alone. -/
@[simp] theorem removeFloor_keeps (s : State) :
    (removeFloor s).pending = s.pending ∧ (removeFloor s).resetLow = s.resetLow ∧ (removeFloor s).pins = s.pins ∧
    (removeFloor s).addr = s.addr ∧ (removeFloor s).role = s.role ∧ (removeFloor s).profile = s.profile ∧
    (removeFloor s).li = s.li ∧ (removeFloor s).lanes = s.lanes ∧ (removeFloor s).mutes = s.mutes ∧
    (removeFloor s).viewTicks = s.viewTicks ∧ (removeFloor s).window = s.window ∧ (removeFloor s).mark = s.mark ∧
    (removeFloor s).ownAsk = s.ownAsk ∧ (removeFloor s).order = s.order ∧ (removeFloor s).seat = s.seat ∧
    (removeFloor s).flags = s.flags ∧ (removeFloor s).st = s.st ∧ (removeFloor s).vu = s.vu ∧
    (removeFloor s).gc = s.gc ∧ (removeFloor s).key1 = s.key1 ∧ (removeFloor s).key2 = s.key2 ∧
    (removeFloor s).key3 = s.key3 ∧ (removeFloor s).flash = s.flash ∧ (removeFloor s).pp = s.pp ∧
    (removeFloor s).outbox = s.outbox ∧ (removeFloor s).freeCount = s.freeCount := by
  unfold removeFloor; split <;> simp

/-- `placeHold` (R45) changes sq alone. -/
@[simp] theorem placeHold_keeps (s : State) :
    (placeHold s).pending = s.pending ∧ (placeHold s).resetLow = s.resetLow ∧ (placeHold s).pins = s.pins ∧
    (placeHold s).addr = s.addr ∧ (placeHold s).role = s.role ∧ (placeHold s).profile = s.profile ∧
    (placeHold s).li = s.li ∧ (placeHold s).lanes = s.lanes ∧ (placeHold s).mutes = s.mutes ∧
    (placeHold s).viewTicks = s.viewTicks ∧ (placeHold s).window = s.window ∧ (placeHold s).mark = s.mark ∧
    (placeHold s).ownAsk = s.ownAsk ∧ (placeHold s).order = s.order ∧ (placeHold s).seat = s.seat ∧
    (placeHold s).flags = s.flags ∧ (placeHold s).st = s.st ∧ (placeHold s).vu = s.vu ∧ (placeHold s).gc = s.gc ∧
    (placeHold s).key1 = s.key1 ∧ (placeHold s).key2 = s.key2 ∧ (placeHold s).key3 = s.key3 ∧
    (placeHold s).flash = s.flash ∧ (placeHold s).pp = s.pp ∧ (placeHold s).outbox = s.outbox ∧
    (placeHold s).freeCount = s.freeCount := by
  unfold placeHold; split <;> (try split) <;> simp

/-- `placeRefresh` (R46) changes sq alone. -/
@[simp] theorem placeRefresh_keeps (s : State) :
    (placeRefresh s).pending = s.pending ∧ (placeRefresh s).resetLow = s.resetLow ∧ (placeRefresh s).pins = s.pins ∧
    (placeRefresh s).addr = s.addr ∧ (placeRefresh s).role = s.role ∧ (placeRefresh s).profile = s.profile ∧
    (placeRefresh s).li = s.li ∧ (placeRefresh s).lanes = s.lanes ∧ (placeRefresh s).mutes = s.mutes ∧
    (placeRefresh s).viewTicks = s.viewTicks ∧ (placeRefresh s).window = s.window ∧ (placeRefresh s).mark = s.mark ∧
    (placeRefresh s).ownAsk = s.ownAsk ∧ (placeRefresh s).order = s.order ∧ (placeRefresh s).seat = s.seat ∧
    (placeRefresh s).flags = s.flags ∧ (placeRefresh s).st = s.st ∧ (placeRefresh s).vu = s.vu ∧
    (placeRefresh s).gc = s.gc ∧ (placeRefresh s).key1 = s.key1 ∧ (placeRefresh s).key2 = s.key2 ∧
    (placeRefresh s).key3 = s.key3 ∧ (placeRefresh s).flash = s.flash ∧ (placeRefresh s).pp = s.pp ∧
    (placeRefresh s).outbox = s.outbox ∧ (placeRefresh s).freeCount = s.freeCount := by
  unfold placeRefresh; split <;> (try split) <;> (try split) <;> simp

/-- `placeOrder` (R47) changes sq alone. -/
@[simp] theorem placeOrder_keeps (n : NewOrder) (s : State) :
    (placeOrder n s).pending = s.pending ∧ (placeOrder n s).resetLow = s.resetLow ∧ (placeOrder n s).pins = s.pins ∧
    (placeOrder n s).addr = s.addr ∧ (placeOrder n s).role = s.role ∧ (placeOrder n s).profile = s.profile ∧
    (placeOrder n s).li = s.li ∧ (placeOrder n s).lanes = s.lanes ∧ (placeOrder n s).mutes = s.mutes ∧
    (placeOrder n s).viewTicks = s.viewTicks ∧ (placeOrder n s).window = s.window ∧ (placeOrder n s).mark = s.mark ∧
    (placeOrder n s).ownAsk = s.ownAsk ∧ (placeOrder n s).order = s.order ∧ (placeOrder n s).seat = s.seat ∧
    (placeOrder n s).flags = s.flags ∧ (placeOrder n s).st = s.st ∧ (placeOrder n s).vu = s.vu ∧
    (placeOrder n s).gc = s.gc ∧ (placeOrder n s).key1 = s.key1 ∧ (placeOrder n s).key2 = s.key2 ∧
    (placeOrder n s).key3 = s.key3 ∧ (placeOrder n s).flash = s.flash ∧ (placeOrder n s).pp = s.pp ∧
    (placeOrder n s).outbox = s.outbox ∧ (placeOrder n s).freeCount = s.freeCount := by
  unfold placeOrder; split <;> simp

/-- `placeRepeat` (R48) changes sq alone. -/
@[simp] theorem placeRepeat_keeps (s : State) :
    (placeRepeat s).pending = s.pending ∧ (placeRepeat s).resetLow = s.resetLow ∧ (placeRepeat s).pins = s.pins ∧
    (placeRepeat s).addr = s.addr ∧ (placeRepeat s).role = s.role ∧ (placeRepeat s).profile = s.profile ∧
    (placeRepeat s).li = s.li ∧ (placeRepeat s).lanes = s.lanes ∧ (placeRepeat s).mutes = s.mutes ∧
    (placeRepeat s).viewTicks = s.viewTicks ∧ (placeRepeat s).window = s.window ∧ (placeRepeat s).mark = s.mark ∧
    (placeRepeat s).ownAsk = s.ownAsk ∧ (placeRepeat s).order = s.order ∧ (placeRepeat s).seat = s.seat ∧
    (placeRepeat s).flags = s.flags ∧ (placeRepeat s).st = s.st ∧ (placeRepeat s).vu = s.vu ∧
    (placeRepeat s).gc = s.gc ∧ (placeRepeat s).key1 = s.key1 ∧ (placeRepeat s).key2 = s.key2 ∧
    (placeRepeat s).key3 = s.key3 ∧ (placeRepeat s).flash = s.flash ∧ (placeRepeat s).pp = s.pp ∧
    (placeRepeat s).outbox = s.outbox ∧ (placeRepeat s).freeCount = s.freeCount := by
  unfold placeRepeat; split <;> (try split) <;> simp

/-- `yieldLane` (R119, R128) changes seat, sq, st, gc alone. -/
@[simp] theorem yieldLane_keeps (r : YieldReason) (s : State) :
    (yieldLane r s).pending = s.pending ∧ (yieldLane r s).resetLow = s.resetLow ∧ (yieldLane r s).pins = s.pins ∧
    (yieldLane r s).addr = s.addr ∧ (yieldLane r s).role = s.role ∧ (yieldLane r s).profile = s.profile ∧
    (yieldLane r s).li = s.li ∧ (yieldLane r s).lanes = s.lanes ∧ (yieldLane r s).mutes = s.mutes ∧
    (yieldLane r s).viewTicks = s.viewTicks ∧ (yieldLane r s).window = s.window ∧ (yieldLane r s).mark = s.mark ∧
    (yieldLane r s).ownAsk = s.ownAsk ∧ (yieldLane r s).order = s.order ∧ (yieldLane r s).flags = s.flags ∧
    (yieldLane r s).vu = s.vu ∧ (yieldLane r s).key1 = s.key1 ∧ (yieldLane r s).key2 = s.key2 ∧
    (yieldLane r s).key3 = s.key3 ∧ (yieldLane r s).flash = s.flash ∧ (yieldLane r s).pp = s.pp ∧
    (yieldLane r s).outbox = s.outbox ∧ (yieldLane r s).freeCount = s.freeCount := by
  unfold yieldLane; split <;> simp

/-- `beginTake` (R112) changes seat, vu, outbox, sq alone. -/
@[simp] theorem beginTake_keeps (t : IntendedTake) (s : State) :
    (beginTake t s).pending = s.pending ∧ (beginTake t s).resetLow = s.resetLow ∧ (beginTake t s).pins = s.pins ∧
    (beginTake t s).addr = s.addr ∧ (beginTake t s).role = s.role ∧ (beginTake t s).profile = s.profile ∧
    (beginTake t s).li = s.li ∧ (beginTake t s).lanes = s.lanes ∧ (beginTake t s).mutes = s.mutes ∧
    (beginTake t s).viewTicks = s.viewTicks ∧ (beginTake t s).window = s.window ∧ (beginTake t s).mark = s.mark ∧
    (beginTake t s).ownAsk = s.ownAsk ∧ (beginTake t s).order = s.order ∧ (beginTake t s).flags = s.flags ∧
    (beginTake t s).st = s.st ∧ (beginTake t s).gc = s.gc ∧ (beginTake t s).key1 = s.key1 ∧
    (beginTake t s).key2 = s.key2 ∧ (beginTake t s).key3 = s.key3 ∧ (beginTake t s).flash = s.flash ∧
    (beginTake t s).pp = s.pp ∧ (beginTake t s).freeCount = s.freeCount := by
  simp [beginTake]

/-- `leaveTake` (R119) changes seat, sq, gc alone. -/
@[simp] theorem leaveTake_keeps (t : IntendedTake) (s : State) :
    (leaveTake t s).pending = s.pending ∧ (leaveTake t s).resetLow = s.resetLow ∧ (leaveTake t s).pins = s.pins ∧
    (leaveTake t s).addr = s.addr ∧ (leaveTake t s).role = s.role ∧ (leaveTake t s).profile = s.profile ∧
    (leaveTake t s).li = s.li ∧ (leaveTake t s).lanes = s.lanes ∧ (leaveTake t s).mutes = s.mutes ∧
    (leaveTake t s).viewTicks = s.viewTicks ∧ (leaveTake t s).window = s.window ∧ (leaveTake t s).mark = s.mark ∧
    (leaveTake t s).ownAsk = s.ownAsk ∧ (leaveTake t s).order = s.order ∧ (leaveTake t s).flags = s.flags ∧
    (leaveTake t s).st = s.st ∧ (leaveTake t s).vu = s.vu ∧ (leaveTake t s).key1 = s.key1 ∧
    (leaveTake t s).key2 = s.key2 ∧ (leaveTake t s).key3 = s.key3 ∧ (leaveTake t s).flash = s.flash ∧
    (leaveTake t s).pp = s.pp ∧ (leaveTake t s).outbox = s.outbox ∧ (leaveTake t s).freeCount = s.freeCount := by
  unfold leaveTake; split <;> simp

/-- `setMutes` (R69) changes mutes, outbox, st alone. -/
@[simp] theorem setMutes_keeps (l : List MuteSource) (s : State) :
    (setMutes l s).pending = s.pending ∧ (setMutes l s).resetLow = s.resetLow ∧ (setMutes l s).pins = s.pins ∧
    (setMutes l s).addr = s.addr ∧ (setMutes l s).role = s.role ∧ (setMutes l s).profile = s.profile ∧
    (setMutes l s).li = s.li ∧ (setMutes l s).sq = s.sq ∧ (setMutes l s).lanes = s.lanes ∧
    (setMutes l s).viewTicks = s.viewTicks ∧ (setMutes l s).window = s.window ∧ (setMutes l s).mark = s.mark ∧
    (setMutes l s).ownAsk = s.ownAsk ∧ (setMutes l s).order = s.order ∧ (setMutes l s).seat = s.seat ∧
    (setMutes l s).flags = s.flags ∧ (setMutes l s).vu = s.vu ∧ (setMutes l s).gc = s.gc ∧
    (setMutes l s).key1 = s.key1 ∧ (setMutes l s).key2 = s.key2 ∧ (setMutes l s).key3 = s.key3 ∧
    (setMutes l s).flash = s.flash ∧ (setMutes l s).pp = s.pp ∧ (setMutes l s).freeCount = s.freeCount := by
  simp only [setMutes]; split <;> simp

/-- `viewArrival` (R53 to R61) changes lanes, mutes, outbox, st alone. -/
@[simp] theorem viewArrival_keeps (f : Frame) (s : State) :
    (viewArrival f s).pending = s.pending ∧ (viewArrival f s).resetLow = s.resetLow ∧
    (viewArrival f s).pins = s.pins ∧ (viewArrival f s).addr = s.addr ∧ (viewArrival f s).role = s.role ∧
    (viewArrival f s).profile = s.profile ∧ (viewArrival f s).li = s.li ∧ (viewArrival f s).sq = s.sq ∧
    (viewArrival f s).viewTicks = s.viewTicks ∧ (viewArrival f s).window = s.window ∧
    (viewArrival f s).mark = s.mark ∧ (viewArrival f s).ownAsk = s.ownAsk ∧ (viewArrival f s).order = s.order ∧
    (viewArrival f s).seat = s.seat ∧ (viewArrival f s).flags = s.flags ∧ (viewArrival f s).vu = s.vu ∧
    (viewArrival f s).gc = s.gc ∧ (viewArrival f s).key1 = s.key1 ∧ (viewArrival f s).key2 = s.key2 ∧
    (viewArrival f s).key3 = s.key3 ∧ (viewArrival f s).flash = s.flash ∧ (viewArrival f s).pp = s.pp ∧
    (viewArrival f s).freeCount = s.freeCount := by
  simp only [viewArrival]; split <;> (try split) <;> simp

/-- `viewTickView` (R63, R68) changes viewTicks, lanes, mutes, outbox, st alone. -/
@[simp] theorem viewTickView_keeps (s : State) :
    (viewTickView s).pending = s.pending ∧ (viewTickView s).resetLow = s.resetLow ∧ (viewTickView s).pins = s.pins ∧
    (viewTickView s).addr = s.addr ∧ (viewTickView s).role = s.role ∧ (viewTickView s).profile = s.profile ∧
    (viewTickView s).li = s.li ∧ (viewTickView s).sq = s.sq ∧ (viewTickView s).window = s.window ∧
    (viewTickView s).mark = s.mark ∧ (viewTickView s).ownAsk = s.ownAsk ∧ (viewTickView s).order = s.order ∧
    (viewTickView s).seat = s.seat ∧ (viewTickView s).flags = s.flags ∧ (viewTickView s).vu = s.vu ∧
    (viewTickView s).gc = s.gc ∧ (viewTickView s).key1 = s.key1 ∧ (viewTickView s).key2 = s.key2 ∧
    (viewTickView s).key3 = s.key3 ∧ (viewTickView s).flash = s.flash ∧ (viewTickView s).pp = s.pp ∧
    (viewTickView s).freeCount = s.freeCount := by
  simp [viewTickView]

/-- `setWindow` (R92) changes window, outbox alone. -/
@[simp] theorem setWindow_keeps (w : List Entry) (s : State) :
    (setWindow w s).pending = s.pending ∧ (setWindow w s).resetLow = s.resetLow ∧ (setWindow w s).pins = s.pins ∧
    (setWindow w s).addr = s.addr ∧ (setWindow w s).role = s.role ∧ (setWindow w s).profile = s.profile ∧
    (setWindow w s).li = s.li ∧ (setWindow w s).sq = s.sq ∧ (setWindow w s).lanes = s.lanes ∧
    (setWindow w s).mutes = s.mutes ∧ (setWindow w s).viewTicks = s.viewTicks ∧ (setWindow w s).mark = s.mark ∧
    (setWindow w s).ownAsk = s.ownAsk ∧ (setWindow w s).order = s.order ∧ (setWindow w s).seat = s.seat ∧
    (setWindow w s).flags = s.flags ∧ (setWindow w s).st = s.st ∧ (setWindow w s).vu = s.vu ∧
    (setWindow w s).gc = s.gc ∧ (setWindow w s).key1 = s.key1 ∧ (setWindow w s).key2 = s.key2 ∧
    (setWindow w s).key3 = s.key3 ∧ (setWindow w s).flash = s.flash ∧ (setWindow w s).pp = s.pp ∧
    (setWindow w s).freeCount = s.freeCount := by
  simp only [setWindow]; split <;> simp

/-- `lineArrival` (R84 to R88) changes window, mark, ownAsk, st, outbox alone. -/
@[simp] theorem lineArrival_keeps (own : Bool) (f : Frame) (s : State) :
    (lineArrival own f s).pending = s.pending ∧ (lineArrival own f s).resetLow = s.resetLow ∧
    (lineArrival own f s).pins = s.pins ∧ (lineArrival own f s).addr = s.addr ∧
    (lineArrival own f s).role = s.role ∧ (lineArrival own f s).profile = s.profile ∧
    (lineArrival own f s).li = s.li ∧ (lineArrival own f s).sq = s.sq ∧ (lineArrival own f s).lanes = s.lanes ∧
    (lineArrival own f s).mutes = s.mutes ∧ (lineArrival own f s).viewTicks = s.viewTicks ∧
    (lineArrival own f s).order = s.order ∧ (lineArrival own f s).seat = s.seat ∧
    (lineArrival own f s).flags = s.flags ∧ (lineArrival own f s).vu = s.vu ∧ (lineArrival own f s).gc = s.gc ∧
    (lineArrival own f s).key1 = s.key1 ∧ (lineArrival own f s).key2 = s.key2 ∧
    (lineArrival own f s).key3 = s.key3 ∧ (lineArrival own f s).flash = s.flash ∧ (lineArrival own f s).pp = s.pp ∧
    (lineArrival own f s).freeCount = s.freeCount := by
  simp only [lineArrival]; split <;> (try split) <;> (try split) <;> simp

/-- `lineEmptied` (R89) changes window, mark, ownAsk, st, outbox alone. -/
@[simp] theorem lineEmptied_keeps (clash clear : Bool) (s : State) :
    (lineEmptied clash clear s).pending = s.pending ∧ (lineEmptied clash clear s).resetLow = s.resetLow ∧
    (lineEmptied clash clear s).pins = s.pins ∧ (lineEmptied clash clear s).addr = s.addr ∧
    (lineEmptied clash clear s).role = s.role ∧ (lineEmptied clash clear s).profile = s.profile ∧
    (lineEmptied clash clear s).li = s.li ∧ (lineEmptied clash clear s).sq = s.sq ∧
    (lineEmptied clash clear s).lanes = s.lanes ∧ (lineEmptied clash clear s).mutes = s.mutes ∧
    (lineEmptied clash clear s).viewTicks = s.viewTicks ∧ (lineEmptied clash clear s).order = s.order ∧
    (lineEmptied clash clear s).seat = s.seat ∧ (lineEmptied clash clear s).flags = s.flags ∧
    (lineEmptied clash clear s).vu = s.vu ∧ (lineEmptied clash clear s).gc = s.gc ∧
    (lineEmptied clash clear s).key1 = s.key1 ∧ (lineEmptied clash clear s).key2 = s.key2 ∧
    (lineEmptied clash clear s).key3 = s.key3 ∧ (lineEmptied clash clear s).flash = s.flash ∧
    (lineEmptied clash clear s).pp = s.pp ∧ (lineEmptied clash clear s).freeCount = s.freeCount := by
  simp only [lineEmptied]; split <;> simp

/-- `tickWait` (R145) changes st alone. -/
@[simp] theorem tickWait_keeps (s : State) :
    (tickWait s).pending = s.pending ∧ (tickWait s).resetLow = s.resetLow ∧ (tickWait s).pins = s.pins ∧
    (tickWait s).addr = s.addr ∧ (tickWait s).role = s.role ∧ (tickWait s).profile = s.profile ∧
    (tickWait s).li = s.li ∧ (tickWait s).sq = s.sq ∧ (tickWait s).lanes = s.lanes ∧ (tickWait s).mutes = s.mutes ∧
    (tickWait s).viewTicks = s.viewTicks ∧ (tickWait s).window = s.window ∧ (tickWait s).mark = s.mark ∧
    (tickWait s).ownAsk = s.ownAsk ∧ (tickWait s).order = s.order ∧ (tickWait s).seat = s.seat ∧
    (tickWait s).flags = s.flags ∧ (tickWait s).vu = s.vu ∧ (tickWait s).gc = s.gc ∧ (tickWait s).key1 = s.key1 ∧
    (tickWait s).key2 = s.key2 ∧ (tickWait s).key3 = s.key3 ∧ (tickWait s).flash = s.flash ∧
    (tickWait s).pp = s.pp ∧ (tickWait s).outbox = s.outbox ∧ (tickWait s).freeCount = s.freeCount := by
  unfold tickWait; split <;> simp

/-- `viewTickLine` (R46, R90) changes window, outbox, st, sq alone. -/
@[simp] theorem viewTickLine_keeps (s : State) :
    (viewTickLine s).pending = s.pending ∧ (viewTickLine s).resetLow = s.resetLow ∧ (viewTickLine s).pins = s.pins ∧
    (viewTickLine s).addr = s.addr ∧ (viewTickLine s).role = s.role ∧ (viewTickLine s).profile = s.profile ∧
    (viewTickLine s).li = s.li ∧ (viewTickLine s).lanes = s.lanes ∧ (viewTickLine s).mutes = s.mutes ∧
    (viewTickLine s).viewTicks = s.viewTicks ∧ (viewTickLine s).mark = s.mark ∧ (viewTickLine s).ownAsk = s.ownAsk ∧
    (viewTickLine s).order = s.order ∧ (viewTickLine s).seat = s.seat ∧ (viewTickLine s).flags = s.flags ∧
    (viewTickLine s).vu = s.vu ∧ (viewTickLine s).gc = s.gc ∧ (viewTickLine s).key1 = s.key1 ∧
    (viewTickLine s).key2 = s.key2 ∧ (viewTickLine s).key3 = s.key3 ∧ (viewTickLine s).flash = s.flash ∧
    (viewTickLine s).pp = s.pp ∧ (viewTickLine s).freeCount = s.freeCount := by
  simp [viewTickLine]

/-- `adopt` (R99) changes order, window, mark, ownAsk, st, outbox alone. -/
@[simp] theorem adopt_keeps (clash : Bool) (r : OrderRec) (clear : Bool) (s : State) :
    (adopt clash r clear s).pending = s.pending ∧ (adopt clash r clear s).resetLow = s.resetLow ∧
    (adopt clash r clear s).pins = s.pins ∧ (adopt clash r clear s).addr = s.addr ∧
    (adopt clash r clear s).role = s.role ∧ (adopt clash r clear s).profile = s.profile ∧
    (adopt clash r clear s).li = s.li ∧ (adopt clash r clear s).sq = s.sq ∧
    (adopt clash r clear s).lanes = s.lanes ∧ (adopt clash r clear s).mutes = s.mutes ∧
    (adopt clash r clear s).viewTicks = s.viewTicks ∧ (adopt clash r clear s).seat = s.seat ∧
    (adopt clash r clear s).flags = s.flags ∧ (adopt clash r clear s).vu = s.vu ∧
    (adopt clash r clear s).gc = s.gc ∧ (adopt clash r clear s).key1 = s.key1 ∧
    (adopt clash r clear s).key2 = s.key2 ∧ (adopt clash r clear s).key3 = s.key3 ∧
    (adopt clash r clear s).flash = s.flash ∧ (adopt clash r clear s).pp = s.pp ∧
    (adopt clash r clear s).freeCount = s.freeCount := by
  simp only [adopt]; split <;> simp

/-- `orderArrivalFO` (R97, R98) changes order, window, mark, ownAsk, st, outbox alone. -/
@[simp] theorem orderArrivalFO_keeps (clash : Bool) (f : Frame) (s : State) :
    (orderArrivalFO clash f s).pending = s.pending ∧ (orderArrivalFO clash f s).resetLow = s.resetLow ∧
    (orderArrivalFO clash f s).pins = s.pins ∧ (orderArrivalFO clash f s).addr = s.addr ∧
    (orderArrivalFO clash f s).role = s.role ∧ (orderArrivalFO clash f s).profile = s.profile ∧
    (orderArrivalFO clash f s).li = s.li ∧ (orderArrivalFO clash f s).sq = s.sq ∧
    (orderArrivalFO clash f s).lanes = s.lanes ∧ (orderArrivalFO clash f s).mutes = s.mutes ∧
    (orderArrivalFO clash f s).viewTicks = s.viewTicks ∧ (orderArrivalFO clash f s).seat = s.seat ∧
    (orderArrivalFO clash f s).flags = s.flags ∧ (orderArrivalFO clash f s).vu = s.vu ∧
    (orderArrivalFO clash f s).gc = s.gc ∧ (orderArrivalFO clash f s).key1 = s.key1 ∧
    (orderArrivalFO clash f s).key2 = s.key2 ∧ (orderArrivalFO clash f s).key3 = s.key3 ∧
    (orderArrivalFO clash f s).flash = s.flash ∧ (orderArrivalFO clash f s).pp = s.pp ∧
    (orderArrivalFO clash f s).freeCount = s.freeCount := by
  unfold orderArrivalFO; split <;> (try split) <;> simp

/-- `timerArrival` (R139) changes st alone. -/
@[simp] theorem timerArrival_keeps (f : Frame) (s : State) :
    (timerArrival f s).pending = s.pending ∧ (timerArrival f s).resetLow = s.resetLow ∧
    (timerArrival f s).pins = s.pins ∧ (timerArrival f s).addr = s.addr ∧ (timerArrival f s).role = s.role ∧
    (timerArrival f s).profile = s.profile ∧ (timerArrival f s).li = s.li ∧ (timerArrival f s).sq = s.sq ∧
    (timerArrival f s).lanes = s.lanes ∧ (timerArrival f s).mutes = s.mutes ∧
    (timerArrival f s).viewTicks = s.viewTicks ∧ (timerArrival f s).window = s.window ∧
    (timerArrival f s).mark = s.mark ∧ (timerArrival f s).ownAsk = s.ownAsk ∧ (timerArrival f s).order = s.order ∧
    (timerArrival f s).seat = s.seat ∧ (timerArrival f s).flags = s.flags ∧ (timerArrival f s).vu = s.vu ∧
    (timerArrival f s).gc = s.gc ∧ (timerArrival f s).key1 = s.key1 ∧ (timerArrival f s).key2 = s.key2 ∧
    (timerArrival f s).key3 = s.key3 ∧ (timerArrival f s).flash = s.flash ∧ (timerArrival f s).pp = s.pp ∧
    (timerArrival f s).outbox = s.outbox ∧ (timerArrival f s).freeCount = s.freeCount := by
  unfold timerArrival; split <;> (try split) <;> simp

/-- `floorArrival` (R17) changes lanes, mutes, order, window, mark, ownAsk, st, outbox alone. -/
@[simp] theorem floorArrival_keeps (own clash : Bool) (f : Frame) (s : State) :
    (floorArrival own clash f s).pending = s.pending ∧ (floorArrival own clash f s).resetLow = s.resetLow ∧
    (floorArrival own clash f s).pins = s.pins ∧ (floorArrival own clash f s).addr = s.addr ∧
    (floorArrival own clash f s).role = s.role ∧ (floorArrival own clash f s).profile = s.profile ∧
    (floorArrival own clash f s).li = s.li ∧ (floorArrival own clash f s).sq = s.sq ∧
    (floorArrival own clash f s).viewTicks = s.viewTicks ∧ (floorArrival own clash f s).seat = s.seat ∧
    (floorArrival own clash f s).flags = s.flags ∧ (floorArrival own clash f s).vu = s.vu ∧
    (floorArrival own clash f s).gc = s.gc ∧ (floorArrival own clash f s).key1 = s.key1 ∧
    (floorArrival own clash f s).key2 = s.key2 ∧ (floorArrival own clash f s).key3 = s.key3 ∧
    (floorArrival own clash f s).flash = s.flash ∧ (floorArrival own clash f s).pp = s.pp ∧
    (floorArrival own clash f s).freeCount = s.freeCount := by
  simp [floorArrival]

/-- `seatWarning` (R128) changes seat, sq, outbox alone. -/
@[simp] theorem seatWarning_keeps (s : State) :
    (seatWarning s).pending = s.pending ∧ (seatWarning s).resetLow = s.resetLow ∧ (seatWarning s).pins = s.pins ∧
    (seatWarning s).addr = s.addr ∧ (seatWarning s).role = s.role ∧ (seatWarning s).profile = s.profile ∧
    (seatWarning s).li = s.li ∧ (seatWarning s).lanes = s.lanes ∧ (seatWarning s).mutes = s.mutes ∧
    (seatWarning s).viewTicks = s.viewTicks ∧ (seatWarning s).window = s.window ∧ (seatWarning s).mark = s.mark ∧
    (seatWarning s).ownAsk = s.ownAsk ∧ (seatWarning s).order = s.order ∧ (seatWarning s).flags = s.flags ∧
    (seatWarning s).st = s.st ∧ (seatWarning s).vu = s.vu ∧ (seatWarning s).gc = s.gc ∧
    (seatWarning s).key1 = s.key1 ∧ (seatWarning s).key2 = s.key2 ∧ (seatWarning s).key3 = s.key3 ∧
    (seatWarning s).flash = s.flash ∧ (seatWarning s).pp = s.pp ∧ (seatWarning s).freeCount = s.freeCount := by
  unfold seatWarning; split <;> simp

/-- `seatLift` (R128) changes seat, sq, outbox alone. -/
@[simp] theorem seatLift_keeps (s : State) :
    (seatLift s).pending = s.pending ∧ (seatLift s).resetLow = s.resetLow ∧ (seatLift s).pins = s.pins ∧
    (seatLift s).addr = s.addr ∧ (seatLift s).role = s.role ∧ (seatLift s).profile = s.profile ∧
    (seatLift s).li = s.li ∧ (seatLift s).lanes = s.lanes ∧ (seatLift s).mutes = s.mutes ∧
    (seatLift s).viewTicks = s.viewTicks ∧ (seatLift s).window = s.window ∧ (seatLift s).mark = s.mark ∧
    (seatLift s).ownAsk = s.ownAsk ∧ (seatLift s).order = s.order ∧ (seatLift s).flags = s.flags ∧
    (seatLift s).st = s.st ∧ (seatLift s).vu = s.vu ∧ (seatLift s).gc = s.gc ∧ (seatLift s).key1 = s.key1 ∧
    (seatLift s).key2 = s.key2 ∧ (seatLift s).key3 = s.key3 ∧ (seatLift s).flash = s.flash ∧
    (seatLift s).pp = s.pp ∧ (seatLift s).freeCount = s.freeCount := by
  unfold seatLift; split <;> simp

/-- `expire` (R138) changes seat, sq, st, gc, outbox alone. -/
@[simp] theorem expire_keeps (s : State) :
    (expire s).pending = s.pending ∧ (expire s).resetLow = s.resetLow ∧ (expire s).pins = s.pins ∧
    (expire s).addr = s.addr ∧ (expire s).role = s.role ∧ (expire s).profile = s.profile ∧ (expire s).li = s.li ∧
    (expire s).lanes = s.lanes ∧ (expire s).mutes = s.mutes ∧ (expire s).viewTicks = s.viewTicks ∧
    (expire s).window = s.window ∧ (expire s).mark = s.mark ∧ (expire s).ownAsk = s.ownAsk ∧
    (expire s).order = s.order ∧ (expire s).flags = s.flags ∧ (expire s).vu = s.vu ∧ (expire s).key1 = s.key1 ∧
    (expire s).key2 = s.key2 ∧ (expire s).key3 = s.key3 ∧ (expire s).flash = s.flash ∧ (expire s).pp = s.pp ∧
    (expire s).freeCount = s.freeCount := by
  unfold expire; split <;> (try split) <;> simp

/-- `countSpeech` (R137) changes seat, sq, st, gc, outbox alone. -/
@[simp] theorem countSpeech_keeps (s : State) :
    (countSpeech s).pending = s.pending ∧ (countSpeech s).resetLow = s.resetLow ∧ (countSpeech s).pins = s.pins ∧
    (countSpeech s).addr = s.addr ∧ (countSpeech s).role = s.role ∧ (countSpeech s).profile = s.profile ∧
    (countSpeech s).li = s.li ∧ (countSpeech s).lanes = s.lanes ∧ (countSpeech s).mutes = s.mutes ∧
    (countSpeech s).viewTicks = s.viewTicks ∧ (countSpeech s).window = s.window ∧ (countSpeech s).mark = s.mark ∧
    (countSpeech s).ownAsk = s.ownAsk ∧ (countSpeech s).order = s.order ∧ (countSpeech s).flags = s.flags ∧
    (countSpeech s).vu = s.vu ∧ (countSpeech s).key1 = s.key1 ∧ (countSpeech s).key2 = s.key2 ∧
    (countSpeech s).key3 = s.key3 ∧ (countSpeech s).flash = s.flash ∧ (countSpeech s).pp = s.pp ∧
    (countSpeech s).freeCount = s.freeCount := by
  simp only [countSpeech]; split <;> (try split) <;> (try split) <;> simp

/-- `speechTick` (R137) changes seat, sq, st, gc, outbox alone. -/
@[simp] theorem speechTick_keeps (s : State) :
    (speechTick s).pending = s.pending ∧ (speechTick s).resetLow = s.resetLow ∧ (speechTick s).pins = s.pins ∧
    (speechTick s).addr = s.addr ∧ (speechTick s).role = s.role ∧ (speechTick s).profile = s.profile ∧
    (speechTick s).li = s.li ∧ (speechTick s).lanes = s.lanes ∧ (speechTick s).mutes = s.mutes ∧
    (speechTick s).viewTicks = s.viewTicks ∧ (speechTick s).window = s.window ∧ (speechTick s).mark = s.mark ∧
    (speechTick s).ownAsk = s.ownAsk ∧ (speechTick s).order = s.order ∧ (speechTick s).flags = s.flags ∧
    (speechTick s).vu = s.vu ∧ (speechTick s).key1 = s.key1 ∧ (speechTick s).key2 = s.key2 ∧
    (speechTick s).key3 = s.key3 ∧ (speechTick s).flash = s.flash ∧ (speechTick s).pp = s.pp ∧
    (speechTick s).freeCount = s.freeCount := by
  unfold speechTick; split <;> simp

/-- `askNew` (R80, R112) changes seat, ownAsk, sq, gc, flash, outbox alone. -/
@[simp] theorem askNew_keeps (s : State) :
    (askNew s).pending = s.pending ∧ (askNew s).resetLow = s.resetLow ∧ (askNew s).pins = s.pins ∧
    (askNew s).addr = s.addr ∧ (askNew s).role = s.role ∧ (askNew s).profile = s.profile ∧ (askNew s).li = s.li ∧
    (askNew s).lanes = s.lanes ∧ (askNew s).mutes = s.mutes ∧ (askNew s).viewTicks = s.viewTicks ∧
    (askNew s).window = s.window ∧ (askNew s).mark = s.mark ∧ (askNew s).order = s.order ∧
    (askNew s).flags = s.flags ∧ (askNew s).st = s.st ∧ (askNew s).vu = s.vu ∧ (askNew s).key1 = s.key1 ∧
    (askNew s).key2 = s.key2 ∧ (askNew s).key3 = s.key3 ∧ (askNew s).pp = s.pp ∧ (askNew s).freeCount = s.freeCount := by
  simp only [askNew]; split <;> (try split) <;> simp

/-- `carryOut` (R112) changes seat, ownAsk, sq, gc, vu, flash, outbox alone. -/
@[simp] theorem carryOut_keeps (k : TakeKind) (d : Decision) (s : State) :
    (carryOut k d s).pending = s.pending ∧ (carryOut k d s).resetLow = s.resetLow ∧ (carryOut k d s).pins = s.pins ∧
    (carryOut k d s).addr = s.addr ∧ (carryOut k d s).role = s.role ∧ (carryOut k d s).profile = s.profile ∧
    (carryOut k d s).li = s.li ∧ (carryOut k d s).lanes = s.lanes ∧ (carryOut k d s).mutes = s.mutes ∧
    (carryOut k d s).viewTicks = s.viewTicks ∧ (carryOut k d s).window = s.window ∧ (carryOut k d s).mark = s.mark ∧
    (carryOut k d s).order = s.order ∧ (carryOut k d s).flags = s.flags ∧ (carryOut k d s).st = s.st ∧
    (carryOut k d s).key1 = s.key1 ∧ (carryOut k d s).key2 = s.key2 ∧ (carryOut k d s).key3 = s.key3 ∧
    (carryOut k d s).pp = s.pp ∧ (carryOut k d s).freeCount = s.freeCount := by
  unfold carryOut; split <;> simp

/-- `voiceAttack` (R114) changes seat, sq, vu, flash, outbox alone. -/
@[simp] theorem voiceAttack_keeps (s : State) :
    (voiceAttack s).pending = s.pending ∧ (voiceAttack s).resetLow = s.resetLow ∧ (voiceAttack s).pins = s.pins ∧
    (voiceAttack s).addr = s.addr ∧ (voiceAttack s).role = s.role ∧ (voiceAttack s).profile = s.profile ∧
    (voiceAttack s).li = s.li ∧ (voiceAttack s).lanes = s.lanes ∧ (voiceAttack s).mutes = s.mutes ∧
    (voiceAttack s).viewTicks = s.viewTicks ∧ (voiceAttack s).window = s.window ∧ (voiceAttack s).mark = s.mark ∧
    (voiceAttack s).ownAsk = s.ownAsk ∧ (voiceAttack s).order = s.order ∧ (voiceAttack s).flags = s.flags ∧
    (voiceAttack s).st = s.st ∧ (voiceAttack s).gc = s.gc ∧ (voiceAttack s).key1 = s.key1 ∧
    (voiceAttack s).key2 = s.key2 ∧ (voiceAttack s).key3 = s.key3 ∧ (voiceAttack s).pp = s.pp ∧
    (voiceAttack s).freeCount = s.freeCount := by
  unfold voiceAttack; split <;> (try split) <;> (try split) <;> simp

/-- `voiceRelease` (R128) changes seat, sq, st, gc alone. -/
@[simp] theorem voiceRelease_keeps (s : State) :
    (voiceRelease s).pending = s.pending ∧ (voiceRelease s).resetLow = s.resetLow ∧ (voiceRelease s).pins = s.pins ∧
    (voiceRelease s).addr = s.addr ∧ (voiceRelease s).role = s.role ∧ (voiceRelease s).profile = s.profile ∧
    (voiceRelease s).li = s.li ∧ (voiceRelease s).lanes = s.lanes ∧ (voiceRelease s).mutes = s.mutes ∧
    (voiceRelease s).viewTicks = s.viewTicks ∧ (voiceRelease s).window = s.window ∧ (voiceRelease s).mark = s.mark ∧
    (voiceRelease s).ownAsk = s.ownAsk ∧ (voiceRelease s).order = s.order ∧ (voiceRelease s).flags = s.flags ∧
    (voiceRelease s).vu = s.vu ∧ (voiceRelease s).key1 = s.key1 ∧ (voiceRelease s).key2 = s.key2 ∧
    (voiceRelease s).key3 = s.key3 ∧ (voiceRelease s).flash = s.flash ∧ (voiceRelease s).pp = s.pp ∧
    (voiceRelease s).outbox = s.outbox ∧ (voiceRelease s).freeCount = s.freeCount := by
  unfold voiceRelease; split <;> (try split) <;> simp

/-- `evaluate` (R113) changes seat, sq, vu, outbox alone. -/
@[simp] theorem evaluate_keeps (s : State) :
    (evaluate s).pending = s.pending ∧ (evaluate s).resetLow = s.resetLow ∧ (evaluate s).pins = s.pins ∧
    (evaluate s).addr = s.addr ∧ (evaluate s).role = s.role ∧ (evaluate s).profile = s.profile ∧
    (evaluate s).li = s.li ∧ (evaluate s).lanes = s.lanes ∧ (evaluate s).mutes = s.mutes ∧
    (evaluate s).viewTicks = s.viewTicks ∧ (evaluate s).window = s.window ∧ (evaluate s).mark = s.mark ∧
    (evaluate s).ownAsk = s.ownAsk ∧ (evaluate s).order = s.order ∧ (evaluate s).flags = s.flags ∧
    (evaluate s).st = s.st ∧ (evaluate s).gc = s.gc ∧ (evaluate s).key1 = s.key1 ∧ (evaluate s).key2 = s.key2 ∧
    (evaluate s).key3 = s.key3 ∧ (evaluate s).flash = s.flash ∧ (evaluate s).pp = s.pp ∧
    (evaluate s).freeCount = s.freeCount := by
  unfold evaluate; split <;> (try split) <;> simp

/-- `signals` (R92, R99) changes seat, sq, vu, outbox alone. -/
@[simp] theorem signals_keeps (before : State) (s : State) :
    (signals before s).pending = s.pending ∧ (signals before s).resetLow = s.resetLow ∧
    (signals before s).pins = s.pins ∧ (signals before s).addr = s.addr ∧ (signals before s).role = s.role ∧
    (signals before s).profile = s.profile ∧ (signals before s).li = s.li ∧ (signals before s).lanes = s.lanes ∧
    (signals before s).mutes = s.mutes ∧ (signals before s).viewTicks = s.viewTicks ∧
    (signals before s).window = s.window ∧ (signals before s).mark = s.mark ∧ (signals before s).ownAsk = s.ownAsk ∧
    (signals before s).order = s.order ∧ (signals before s).flags = s.flags ∧ (signals before s).st = s.st ∧
    (signals before s).gc = s.gc ∧ (signals before s).key1 = s.key1 ∧ (signals before s).key2 = s.key2 ∧
    (signals before s).key3 = s.key3 ∧ (signals before s).flash = s.flash ∧ (signals before s).pp = s.pp ∧
    (signals before s).freeCount = s.freeCount := by
  unfold signals; split <;> simp

/-- `seatAskEnded` (R129) changes seat, sq, gc alone. -/
@[simp] theorem seatAskEnded_keeps (s : State) :
    (seatAskEnded s).pending = s.pending ∧ (seatAskEnded s).resetLow = s.resetLow ∧ (seatAskEnded s).pins = s.pins ∧
    (seatAskEnded s).addr = s.addr ∧ (seatAskEnded s).role = s.role ∧ (seatAskEnded s).profile = s.profile ∧
    (seatAskEnded s).li = s.li ∧ (seatAskEnded s).lanes = s.lanes ∧ (seatAskEnded s).mutes = s.mutes ∧
    (seatAskEnded s).viewTicks = s.viewTicks ∧ (seatAskEnded s).window = s.window ∧ (seatAskEnded s).mark = s.mark ∧
    (seatAskEnded s).ownAsk = s.ownAsk ∧ (seatAskEnded s).order = s.order ∧ (seatAskEnded s).flags = s.flags ∧
    (seatAskEnded s).st = s.st ∧ (seatAskEnded s).vu = s.vu ∧ (seatAskEnded s).key1 = s.key1 ∧
    (seatAskEnded s).key2 = s.key2 ∧ (seatAskEnded s).key3 = s.key3 ∧ (seatAskEnded s).flash = s.flash ∧
    (seatAskEnded s).pp = s.pp ∧ (seatAskEnded s).outbox = s.outbox ∧ (seatAskEnded s).freeCount = s.freeCount := by
  unfold seatAskEnded; split <;> (try split) <;> simp

/-- `dropWithdraw` (R129) changes sq alone. -/
@[simp] theorem dropWithdraw_keeps (s : State) :
    (dropWithdraw s).pending = s.pending ∧ (dropWithdraw s).resetLow = s.resetLow ∧ (dropWithdraw s).pins = s.pins ∧
    (dropWithdraw s).addr = s.addr ∧ (dropWithdraw s).role = s.role ∧ (dropWithdraw s).profile = s.profile ∧
    (dropWithdraw s).li = s.li ∧ (dropWithdraw s).lanes = s.lanes ∧ (dropWithdraw s).mutes = s.mutes ∧
    (dropWithdraw s).viewTicks = s.viewTicks ∧ (dropWithdraw s).window = s.window ∧ (dropWithdraw s).mark = s.mark ∧
    (dropWithdraw s).ownAsk = s.ownAsk ∧ (dropWithdraw s).order = s.order ∧ (dropWithdraw s).seat = s.seat ∧
    (dropWithdraw s).flags = s.flags ∧ (dropWithdraw s).st = s.st ∧ (dropWithdraw s).vu = s.vu ∧
    (dropWithdraw s).gc = s.gc ∧ (dropWithdraw s).key1 = s.key1 ∧ (dropWithdraw s).key2 = s.key2 ∧
    (dropWithdraw s).key3 = s.key3 ∧ (dropWithdraw s).flash = s.flash ∧ (dropWithdraw s).pp = s.pp ∧
    (dropWithdraw s).outbox = s.outbox ∧ (dropWithdraw s).freeCount = s.freeCount := by
  unfold dropWithdraw; split <;> simp

/-- `seatTake` (R125) changes seat, sq, st, gc, outbox alone. -/
@[simp] theorem seatTake_keeps (a : Nat) (lane : Fin 8) (displace : Bool) (s : State) :
    (seatTake a lane displace s).pending = s.pending ∧ (seatTake a lane displace s).resetLow = s.resetLow ∧
    (seatTake a lane displace s).pins = s.pins ∧ (seatTake a lane displace s).addr = s.addr ∧
    (seatTake a lane displace s).role = s.role ∧ (seatTake a lane displace s).profile = s.profile ∧
    (seatTake a lane displace s).li = s.li ∧ (seatTake a lane displace s).lanes = s.lanes ∧
    (seatTake a lane displace s).mutes = s.mutes ∧ (seatTake a lane displace s).viewTicks = s.viewTicks ∧
    (seatTake a lane displace s).window = s.window ∧ (seatTake a lane displace s).mark = s.mark ∧
    (seatTake a lane displace s).ownAsk = s.ownAsk ∧ (seatTake a lane displace s).order = s.order ∧
    (seatTake a lane displace s).flags = s.flags ∧ (seatTake a lane displace s).vu = s.vu ∧
    (seatTake a lane displace s).key1 = s.key1 ∧ (seatTake a lane displace s).key2 = s.key2 ∧
    (seatTake a lane displace s).key3 = s.key3 ∧ (seatTake a lane displace s).flash = s.flash ∧
    (seatTake a lane displace s).pp = s.pp ∧ (seatTake a lane displace s).freeCount = s.freeCount := by
  unfold seatTake; split <;> (try split) <;> (try split) <;> simp

/-- `seatHold` (R126) changes seat, sq, st, gc, outbox alone. -/
@[simp] theorem seatHold_keeps (a : Nat) (lane : Fin 8) (s : State) :
    (seatHold a lane s).pending = s.pending ∧ (seatHold a lane s).resetLow = s.resetLow ∧
    (seatHold a lane s).pins = s.pins ∧ (seatHold a lane s).addr = s.addr ∧ (seatHold a lane s).role = s.role ∧
    (seatHold a lane s).profile = s.profile ∧ (seatHold a lane s).li = s.li ∧ (seatHold a lane s).lanes = s.lanes ∧
    (seatHold a lane s).mutes = s.mutes ∧ (seatHold a lane s).viewTicks = s.viewTicks ∧
    (seatHold a lane s).window = s.window ∧ (seatHold a lane s).mark = s.mark ∧
    (seatHold a lane s).ownAsk = s.ownAsk ∧ (seatHold a lane s).order = s.order ∧
    (seatHold a lane s).flags = s.flags ∧ (seatHold a lane s).vu = s.vu ∧ (seatHold a lane s).key1 = s.key1 ∧
    (seatHold a lane s).key2 = s.key2 ∧ (seatHold a lane s).key3 = s.key3 ∧ (seatHold a lane s).flash = s.flash ∧
    (seatHold a lane s).pp = s.pp ∧ (seatHold a lane s).freeCount = s.freeCount := by
  unfold seatHold; repeat' split
  all_goals simp

/-- `seatCut` (R127) changes seat, sq, st, gc, outbox alone. -/
@[simp] theorem seatCut_keeps (s : State) :
    (seatCut s).pending = s.pending ∧ (seatCut s).resetLow = s.resetLow ∧ (seatCut s).pins = s.pins ∧
    (seatCut s).addr = s.addr ∧ (seatCut s).role = s.role ∧ (seatCut s).profile = s.profile ∧
    (seatCut s).li = s.li ∧ (seatCut s).lanes = s.lanes ∧ (seatCut s).mutes = s.mutes ∧
    (seatCut s).viewTicks = s.viewTicks ∧ (seatCut s).window = s.window ∧ (seatCut s).mark = s.mark ∧
    (seatCut s).ownAsk = s.ownAsk ∧ (seatCut s).order = s.order ∧ (seatCut s).flags = s.flags ∧
    (seatCut s).vu = s.vu ∧ (seatCut s).key1 = s.key1 ∧ (seatCut s).key2 = s.key2 ∧ (seatCut s).key3 = s.key3 ∧
    (seatCut s).flash = s.flash ∧ (seatCut s).pp = s.pp ∧ (seatCut s).freeCount = s.freeCount := by
  unfold seatCut; split <;> simp

/-- `seatGrant` (R115) changes seat, sq, vu, outbox alone. -/
@[simp] theorem seatGrant_keeps (chair : Nat) (s : State) :
    (seatGrant chair s).pending = s.pending ∧ (seatGrant chair s).resetLow = s.resetLow ∧
    (seatGrant chair s).pins = s.pins ∧ (seatGrant chair s).addr = s.addr ∧ (seatGrant chair s).role = s.role ∧
    (seatGrant chair s).profile = s.profile ∧ (seatGrant chair s).li = s.li ∧ (seatGrant chair s).lanes = s.lanes ∧
    (seatGrant chair s).mutes = s.mutes ∧ (seatGrant chair s).viewTicks = s.viewTicks ∧
    (seatGrant chair s).window = s.window ∧ (seatGrant chair s).mark = s.mark ∧
    (seatGrant chair s).ownAsk = s.ownAsk ∧ (seatGrant chair s).order = s.order ∧
    (seatGrant chair s).flags = s.flags ∧ (seatGrant chair s).st = s.st ∧ (seatGrant chair s).gc = s.gc ∧
    (seatGrant chair s).key1 = s.key1 ∧ (seatGrant chair s).key2 = s.key2 ∧ (seatGrant chair s).key3 = s.key3 ∧
    (seatGrant chair s).flash = s.flash ∧ (seatGrant chair s).pp = s.pp ∧
    (seatGrant chair s).freeCount = s.freeCount := by
  unfold seatGrant; split
  · split <;> (try (cases s.freeLanes)) <;> simp
  · simp

/-- `seatOrder` (R129) changes seat, sq, gc, flags alone. -/
@[simp] theorem seatOrder_keeps (clear : Bool) (before : State) (s : State) :
    (seatOrder clear before s).pending = s.pending ∧ (seatOrder clear before s).resetLow = s.resetLow ∧
    (seatOrder clear before s).pins = s.pins ∧ (seatOrder clear before s).addr = s.addr ∧
    (seatOrder clear before s).role = s.role ∧ (seatOrder clear before s).profile = s.profile ∧
    (seatOrder clear before s).li = s.li ∧ (seatOrder clear before s).lanes = s.lanes ∧
    (seatOrder clear before s).mutes = s.mutes ∧ (seatOrder clear before s).viewTicks = s.viewTicks ∧
    (seatOrder clear before s).window = s.window ∧ (seatOrder clear before s).mark = s.mark ∧
    (seatOrder clear before s).ownAsk = s.ownAsk ∧ (seatOrder clear before s).order = s.order ∧
    (seatOrder clear before s).st = s.st ∧ (seatOrder clear before s).vu = s.vu ∧
    (seatOrder clear before s).key1 = s.key1 ∧ (seatOrder clear before s).key2 = s.key2 ∧
    (seatOrder clear before s).key3 = s.key3 ∧ (seatOrder clear before s).flash = s.flash ∧
    (seatOrder clear before s).pp = s.pp ∧ (seatOrder clear before s).outbox = s.outbox ∧
    (seatOrder clear before s).freeCount = s.freeCount := by
  simp only [seatOrder]; split <;> (try split) <;> (try split) <;> (try split) <;> simp

/-- `seatArrival` (R115, R125 to R129) changes seat, sq, st, gc, vu, flags, outbox alone. -/
@[simp] theorem seatArrival_keeps (f : Frame) (before : State) (s : State) :
    (seatArrival f before s).pending = s.pending ∧ (seatArrival f before s).resetLow = s.resetLow ∧
    (seatArrival f before s).pins = s.pins ∧ (seatArrival f before s).addr = s.addr ∧
    (seatArrival f before s).role = s.role ∧ (seatArrival f before s).profile = s.profile ∧
    (seatArrival f before s).li = s.li ∧ (seatArrival f before s).lanes = s.lanes ∧
    (seatArrival f before s).mutes = s.mutes ∧ (seatArrival f before s).viewTicks = s.viewTicks ∧
    (seatArrival f before s).window = s.window ∧ (seatArrival f before s).mark = s.mark ∧
    (seatArrival f before s).ownAsk = s.ownAsk ∧ (seatArrival f before s).order = s.order ∧
    (seatArrival f before s).key1 = s.key1 ∧ (seatArrival f before s).key2 = s.key2 ∧
    (seatArrival f before s).key3 = s.key3 ∧ (seatArrival f before s).flash = s.flash ∧
    (seatArrival f before s).pp = s.pp ∧ (seatArrival f before s).freeCount = s.freeCount := by
  simp only [seatArrival]; split <;> (try split) <;> (try split) <;> (try split) <;> (try split) <;> simp

/-- `addressClash` (R130) changes seat, sq, st, gc, ownAsk, flags, flash, outbox alone. -/
@[simp] theorem addressClash_keeps (s : State) :
    (addressClash s).pending = s.pending ∧ (addressClash s).resetLow = s.resetLow ∧ (addressClash s).pins = s.pins ∧
    (addressClash s).addr = s.addr ∧ (addressClash s).role = s.role ∧ (addressClash s).profile = s.profile ∧
    (addressClash s).li = s.li ∧ (addressClash s).lanes = s.lanes ∧ (addressClash s).mutes = s.mutes ∧
    (addressClash s).viewTicks = s.viewTicks ∧ (addressClash s).window = s.window ∧ (addressClash s).mark = s.mark ∧
    (addressClash s).order = s.order ∧ (addressClash s).vu = s.vu ∧ (addressClash s).key1 = s.key1 ∧
    (addressClash s).key2 = s.key2 ∧ (addressClash s).key3 = s.key3 ∧ (addressClash s).pp = s.pp ∧
    (addressClash s).freeCount = s.freeCount := by
  simp only [addressClash]; split <;> simp

/-! ## What an operation does, case by case -/

/-- R185: the postings of one instant reach the queue in some order: none is lost, and none comes twice. -/
theorem orderPosted_perm (n : Nat) (ps : List Posted) : (orderPosted n ps).Perm ps := by
  have ins (i : Nat) (p : Posted) (l : List Posted) (j : Nat) : (insertPosted n i p j l).Perm (p :: l) := by
    induction l generalizing j with
    | nil => exact .refl _
    | cons q rest ih =>
      unfold insertPosted
      split
      · exact .refl _
      · exact ((ih (j + 1)).cons q).trans (.swap p q rest)
  induction ps with
  | nil => exact .refl _
  | cons p rest ih => exact (ins _ p _ 0).trans (ih.cons p)

/-- The postings of one block at one instant keep their order (log entry 21). -/
theorem orderPosted_block (n : Nat) (b : Block) (ps : List Posted) :
    (orderPosted n ps).filter (fun p => decide (p.block = b)) = ps.filter (fun p => decide (p.block = b)) := by
  have ins (i : Nat) (p : Posted) (l : List Posted) (j : Nat) :
      (insertPosted n i p j l).filter (fun q => decide (q.block = b)) =
        (p :: l).filter (fun q => decide (q.block = b)) := by
    induction l generalizing j with
    | nil => rfl
    | cons q rest ih =>
      unfold insertPosted
      split
      · rfl
      · next h =>
        have other : p.block ≠ q.block := fun e => h (by simp [Posted.staysAhead, e])
        rw [List.filter_cons, ih]
        by_cases hp : p.block = b <;> by_cases hq : q.block = b <;> simp_all
  induction ps with
  | nil => rfl
  | cons p rest ih => rw [orderPosted, ins, List.filter_cons, List.filter_cons, ih]

/-- R185: the end of an instant, said once: the queue takes the events posted, in some order, stamped with the counter. -/
theorem flush_takes (s : State) :
    ∃ order : List Event, order.Perm (s.outbox.map Posted.event) ∧
      (flush s).pp.events = order.foldl (enqueueEvent s.viewTicks s.pp.reading) s.pp.events := by
  refine ⟨(orderPosted s.freeCount s.outbox).map Posted.event, (orderPosted_perm _ _).map _, ?_⟩
  rw [List.foldl_map]
  unfold flush
  split
  · next h => simp [h, orderPosted]
  · rfl

/-- R62: a record is reported exactly when its state, its holder or its warned flag has changed. -/
theorem reportable_eq_shows (a b : Lane) : a.reportable b = decide (b.shows ≠ a.shows) := by
  cases a <;> cases b <;> simp [Lane.reportable, Lane.shows, eq_comm, imp_iff_not_or]

/-- R62: the events that FV posts of the lanes, as `State.floorEvents` lists them. -/
theorem laneEvents_events (v w : Vector Lane 8) :
    (laneEvents v w).map Posted.event =
      (laneNumbers.filter fun i => decide (w[i].shows ≠ v[i].shows)).map Event.laneChanged := by
  simp [laneEvents, reportable_eq_shows, Function.comp_def]

/-- An instant at which nothing was posted ends as it stands. -/
theorem flush_of_empty {s : State} (h : s.outbox = []) : flush s = s := by
  unfold flush; rw [h]

/-- An instant at which one event was posted: the queue takes it (R185). -/
theorem flush_of_one {s : State} {b : Block} {e : Event} (h : s.outbox = [{ block := b, event := e }]) :
    flush s = State.posting { s with outbox := [] } e := by
  unfold flush; rw [h]; rfl

/-- After the end of an instant no event waits. -/
@[simp] theorem flush_outbox (s : State) : (flush s).outbox = [] := by
  unfold flush; split
  · assumption
  · rfl

/-- A command at a state whose RST_N is high is its effect and then the end of the instant. -/
theorem event_of_high {s : State} (f : State → State) (h : s.resetLow = false) : event f s = .next (flush (f s)) := by
  simp [event, h]

/-- R44: in a slot whose frame is not in flight the new frame stands at once, with count 0. -/
theorem placeFloor_of_free {s : State} (c : FloorFrame) (h : s.flying .floor = false) :
    placeFloor c s = { s with sq := { s.sq with floor := some { content := c, count := 0 } } } := by
  simp [placeFloor, h]

/-- R40: behind a frame in flight the new frame is held. -/
theorem placeFloor_of_flying {s : State} (c : FloorFrame) (h : s.flying .floor = true) :
    placeFloor c s = { s with sq := { s.sq with floorHeld := some c } } := by
  simp [placeFloor, h]

/-- A pending FLOOR frame that is not in flight leaves its slot. -/
theorem removeFloor_of_free {s : State} (h : s.flying .floor = false) :
    removeFloor s = { s with sq := { s.sq with floor := none } } := by
  simp [removeFloor, h]

/-- R45: a LIVE or WARNED seat outside the wait of a restart places its HOLD. -/
theorem placeHold_of_speaking {s : State} {h : OwnLane} (hs : s.seat.speaking? = some h)
    (hr : s.flags.restartPending = false) :
    placeHold s = if s.flying .hold then { s with sq := { s.sq with holdHeld := true } }
      else { s with sq := { s.sq with hold := some (s.sq.hold.getD 0) } } := by
  simp [placeHold, hs, hr]

/-- R45: no other seat places one. -/
theorem placeHold_of_silent {s : State} (hs : s.seat.speaking? = none) : placeHold s = s := by
  simp [placeHold, hs]

/-- R83: an Own Ask that is NONE does not end. -/
theorem endOwnAsk_of_none {s : State} (r : AskEnd) (h : s.ownAsk = .none) : endOwnAsk r s = s := by
  simp [endOwnAsk, h]

/-- R83: after it the Own Ask is NONE. -/
@[simp] theorem endOwnAsk_ownAsk (r : AskEnd) (s : State) : (endOwnAsk r s).ownAsk = .none := by
  unfold endOwnAsk; split
  · assumption
  · rfl

/-- R144: a speech end leaves no speech. -/
@[simp] theorem speechEnd_speaking (s : State) : (speechEnd s).st.speaking = false := by
  simp only [speechEnd]; split
  · rfl
  · rename_i h; simpa using h

/-- R119, R128: a LIVE or WARNED seat that yields. -/
theorem yieldLane_of_speaking {s : State} {h : OwnLane} (r : YieldReason) (hs : s.seat.speaking? = some h) :
    yieldLane r s = { placeFloor (.yield h.lane r) (speechEnd s) with seat := .yielding h r } := by
  simp [yieldLane, hs]

/-- R62: the lane records are the ones set. -/
theorem mapLanes_get (f : Fin 8 → Lane → Lane) (v : Vector Lane 8) (i : Fin 8) : (mapLanes f v)[i] = f i v[i] := by
  fin_cases i <;> rfl

/-- R52, R59: a lane record after a HOLD of the higher claimant: only a lane of that address can change, and it becomes FREE. -/
theorem freeOthers_get (n : Fin 8) (a : Nat) (v : Vector Lane 8) (i : Fin 8) :
    (freeOthers n a v)[i] =
      if i ≠ n ∧ v[i].holder? = some a ∧ Config.higherClaimFrees = true then .free else v[i] := by
  fin_cases i <;> simp [freeOthers, mapLanes, and_assoc]

/-- R1: with nothing left at the pins a step is a bit time in which no other station drives. -/
theorem pinStep_of_nil {s : State} (h : s.pins = []) : pinStep s = .next (lineBit true s) := by
  cases s; simp only at h; subst h; rfl

/-- R1: a bit time of the line at the front of the pins. -/
theorem pinStep_of_lineBit {s : State} {others : Bool} {rest : List PinEvent} (h : s.pins = .lineBit others :: rest) :
    pinStep s = .next (lineBit others { s with pins := rest }) := by
  simp [pinStep, pinEvent, h]

/-- R179: before the execution a bit of PDI joins the command shift state, and executes the command that it makes whole. -/
theorem pclkRise_of_shift {s : State} {bits : List Bool} (pdi : Bool) (h : s.pp.shift = some bits) :
    pclkRise pdi s = shiftIn bits pdi s := by
  simp [pclkRise, h]

/-- R179: after the execution a rising edge clocks one bit of the status and the response out. -/
theorem pclkRise_of_transaction {s : State} {t : Transaction} (pdi : Bool) (hs : s.pp.shift = none)
    (h : s.pp.transaction = some t) : pclkRise pdi s = shiftOut t s := by
  simp [pclkRise, hs, h]

/-- R185: the event queue never holds more than 16 entries. -/
theorem enqueueEvent_length (stamp : Nat) (reading : Bool) (q : List EventRec) (e : Event) (h : q.length ≤ 16) :
    (enqueueEvent stamp reading q e).length ≤ 16 := by
  have hd : q.dropLast.length + 1 ≤ 16 ∨ q = [] := by
    cases q with
    | nil => exact .inr rfl
    | cons x xs => left; simp at h ⊢; omega
  unfold enqueueEvent
  repeat' split
  all_goals first
    | exact h
    | simp only [List.length_append, List.length_singleton]
      rcases hd with hd | rfl <;> simp_all

end Sys2Proof.Machine
end

