-- ==== Sys2Proof/Laws/PerInstr.lean ====
section
/-! SUPPORT. The panel's bytes, command by command (R179, R180): the bytes of a command are read as that command. -/

namespace Sys2Proof.Laws.PanelBytes

open Sys2Proof

/-- The bytes of a well-formed panel command are read as that command; other commands have no bytes. -/
def Statement (i : Instr) : Prop :=
  ∀ bytes : List Byte, i.wellFormed = true → panelBytes i = some bytes → panelCommand bytes = some i

/-- A command without panel bytes. -/
theorem of_none {i : Instr} (h : panelBytes i = none) : Statement i := by
  intro bytes _ hb; rw [h] at hb; cases hb

/-- A command whose bytes are given and read back. -/
theorem of_some {i : Instr} (bytes : List Byte) (h : panelBytes i = some bytes) (hc : panelCommand bytes = some i) :
    Statement i := by
  intro b _ hb; rw [h] at hb; cases hb; exact hc

/-- A 16-bit argument is its two bytes, most significant first. -/
theorem argument16_bytes (x : BitVec 16) : argument16 (x.extractLsb' 8 8) (x.extractLsb' 0 8) = x := by
  apply BitVec.eq_of_toNat_eq
  simp only [argument16, BitVec.toNat_append, BitVec.extractLsb'_toNat, Nat.shiftRight_zero]
  rw [← Nat.shiftLeft_add_eq_or_of_lt (by omega)]
  simp only [Nat.shiftLeft_eq, Nat.shiftRight_eq_div_pow]; omega

theorem pinResetAssert : Statement .pinResetAssert := of_none rfl
theorem pinResetRelease (addr : AddrBits) (role : Role) (profile : BitVec 2) :
    Statement (.pinResetRelease addr role profile) := of_none rfl
theorem startBoundary : Statement .startBoundary := of_none rfl
theorem frameDiscard (cause : DiscardCause) : Statement (.frameDiscard cause) := of_none rfl
theorem objectionBurstEnd : Statement .objectionBurstEnd := of_none rfl
theorem attemptLost : Statement .attemptLost := of_none rfl
theorem attemptCompleted : Statement .attemptCompleted := of_none rfl
theorem attemptObjected : Statement .attemptObjected := of_none rfl
theorem lineStuck : Statement .lineStuck := of_none rfl
theorem lineClear : Statement .lineClear := of_none rfl
theorem orderArrival (h : Header) (source : AddrBits) (sequence : BitVec 8) (mode : BitVec 2)
    (laneLimit : BitVec 4) (allowance : BitVec 8) (grace : BitVec 6) (capacity : BitVec 6) (clear : Bool) :
    Statement (.orderArrival h source sequence mode laneLimit allowance grace capacity clear) := of_none rfl
theorem directCutArrival (h : Header) (target : AddrBits) (argument : BitVec 13) :
    Statement (.directCutArrival h target argument) := of_none rfl
theorem directGrantArrival (h : Header) (target : AddrBits) (argument : BitVec 13) :
    Statement (.directGrantArrival h target argument) := of_none rfl
theorem directExtendArrival (h : Header) (target : AddrBits) (argument : BitVec 13) :
    Statement (.directExtendArrival h target argument) := of_none rfl
theorem directDropAskArrival (h : Header) (target : AddrBits) (argument : BitVec 13) :
    Statement (.directDropAskArrival h target argument) := of_none rfl
theorem yieldArrival (h : Header) (lane : BitVec 3) (reason : BitVec 3) :
    Statement (.yieldArrival h lane reason) := of_none rfl
theorem takeArrival (h : Header) (lane : BitVec 3) (displace : Bool) (muting : Bool) :
    Statement (.takeArrival h lane displace muting) := of_none rfl
theorem withdrawArrival (h : Header) (reason : BitVec 2) : Statement (.withdrawArrival h reason) := of_none rfl
theorem askArrival (h : Header) (refresh : Bool) : Statement (.askArrival h refresh) := of_none rfl
theorem holdArrival (h : Header) (elapsed : BitVec 16) (muting : Bool) (warned : Bool) :
    Statement (.holdArrival h elapsed muting warned) := of_none rfl
theorem viewTick : Statement .viewTick := of_none rfl
theorem laneLapse (lane : BitVec 3) : Statement (.laneLapse lane) := of_none rfl
theorem muteSourceLapse (chair : AddrBits) : Statement (.muteSourceLapse chair) := of_none rfl
theorem lineEntryLapse (asker : AddrBits) : Statement (.lineEntryLapse asker) := of_none rfl
theorem settlingEnd : Statement .settlingEnd := of_none rfl
theorem orderRepeat : Statement .orderRepeat := of_none rfl
theorem speechTick : Statement .speechTick := of_none rfl
theorem speechExpiry : Statement .speechExpiry := of_none rfl
theorem levelSample (x : BitVec 8) : Statement (.levelSample x) := of_none rfl
theorem attackCompletion : Statement .attackCompletion := of_none rfl
theorem releaseCompletion : Statement .releaseCompletion := of_none rfl
theorem trimCompletion : Statement .trimCompletion := of_none rfl
theorem gateDelayExpiry : Statement .gateDelayExpiry := of_none rfl
theorem duckTailExpiry : Statement .duckTailExpiry := of_none rfl
theorem keyLevelChange (key : KeyId) (pressed : Bool) : Statement (.keyLevelChange key pressed) := of_none rfl
theorem debounceExpiry (key : KeyId) : Statement (.debounceExpiry key) := of_none rfl
theorem refusalFlashEnd : Statement .refusalFlashEnd := of_none rfl
theorem readStatus : Statement .readStatus := of_some _ rfl rfl
theorem readLanes : Statement .readLanes := of_some _ rfl rfl
theorem readLine : Statement .readLine := of_some _ rfl rfl
theorem takeEvent : Statement .takeEvent := of_some _ rfl rfl
theorem readFeed : Statement .readFeed := of_some _ rfl rfl
theorem panelKey (key : Byte) (action : Byte) : Statement (.panelKey key action) := of_some _ rfl rfl
theorem panelTrim : Statement .panelTrim := of_some _ rfl rfl
theorem panelRestart : Statement .panelRestart := of_some _ rfl rfl
theorem panelFeed (arg : Byte) : Statement (.panelFeed arg) := of_some _ rfl rfl
theorem setOrder (mode : Byte) (laneLimit : Byte) (allowance : Byte) (grace : Byte) (capacity : Byte)
    (clear : Byte) :
    Statement (.setOrder mode laneLimit allowance grace capacity clear) := of_some _ rfl rfl
theorem sendDirect (target : BitVec 16) (action : Byte) (argument : BitVec 16) :
    Statement (.sendDirect target action argument) := 
  of_some _ rfl (by simp [panelCommand, argument16_bytes])
theorem unknownCommand (code : Byte) : Statement (.unknownCommand code) := by
  intro bytes hw hb
  cases hb
  simp [Instr.wellFormed, commandCodes] at hw
  simp [panelCommand, hw]
theorem transactionAbandoned : Statement .transactionAbandoned := of_none rfl
theorem eventRecordRemoval : Statement .eventRecordRemoval := of_none rfl
theorem feedRecordRemoval : Statement .feedRecordRemoval := of_none rfl
theorem feedOverflowClear : Statement .feedOverflowClear := of_none rfl
theorem restartCompletion : Statement .restartCompletion := of_none rfl
theorem directAction47Arrival (h : Header) (target : AddrBits) (action : BitVec 3) (argument : BitVec 13) :
    Statement (.directAction47Arrival h target action argument) := of_none rfl

end Sys2Proof.Laws.PanelBytes
end

