-- ==== Sys2Proof/Tests/Slice0.lean ====
section
/-! SUPPORT. Tests with results taken from the spec's worked examples, the WellFormed smoke, and one witness for the
hypotheses of each statement, or of each of its clauses. -/

namespace Sys2Proof.Tests

open Sys2Proof Sys2Proof.Machine

/-! ## WellFormed -/

/-- R180: READ_LINE's code is one of the eleven, so no UNKNOWN_COMMAND carries it. -/
theorem test_unknown_code_refused : (Instr.unknownCommand 0x03).wellFormed = false := by decide

/-- R180: 0x06 is none of the eleven codes. -/
theorem test_unknown_code_accepted : (Instr.unknownCommand 0x06).wellFormed = true := by decide

/-- R28: action 3 is DROP_ASK. -/
theorem test_action_refused :
    (Instr.directAction47Arrival { standing := .chair, key := 0, sender := 9 } 5 3 0).wellFormed = false := by decide

/-- R28: action 4 has no name. -/
theorem test_action_accepted :
    (Instr.directAction47Arrival { standing := .chair, key := 0, sender := 9 } 5 4 0).wellFormed = true := by decide

/-! ## States -/

/-- The state a command leaves. -/
def after (c : Instr) (s : State) : State :=
  match exec c s with
  | .next t => t
  | _ => s

/-- A delegate seat of address 1, IDLE. -/
def idle : State := { State.reset with seat := .idle }

/-- The same seat, at the slot of a frame of another station. -/
def hearing : State := { idle with li := { LineIf.reset with status := .slot } }

/-- A header from delegate 5 with a key. -/
def head (key : BitVec 16) : Header := { standing := .delegate, key := key, sender := 5 }

/-- A header from chair 300 with key 0. -/
def chairHead : Header := { standing := .chair, key := 0, sender := 300 }

/-- Lane 2, taken by the key. -/
def lane2 : OwnLane := { lane := 2, tookBy := .key, muting := false }

/-- The seat speaking on lane 2 with 60 s left and 10 s of grace. -/
def live : State :=
  { hearing with
    seat := .live lane2
    st := { SpeechTimer.reset with speaking := true, phase := .counting .running, remaining := 60, speechGrace := 10,
                                   elapsed := 40 } }

/-- The seat waiting with ticket 4. -/
def waiting : State := { hearing with seat := .waiting, ownAsk := .live 4 }

/-- A lane held by an address with a standing and an age. -/
def heldBy (holder : Nat) (standing : Role) (age : Nat) : Lane :=
  .held { holder := holder, standing := standing, ticket := 0, age := age, silence := 0, muting := false, warned := false }

/-- The seat with a frame of its own in flight, at a point of the attempt. -/
def flying (status : LineStatus) (slot : SlotId) (f : Frame) (s : State) : State :=
  { s with li := { LineIf.reset with status := status }, sq := { s.sq with inFlight := some { slot := slot, frame := f } } }

/-! ## Worked examples of the spec -/

/-- Section 1.4's example: station 212's TAKE with key 14, line bits 1 to 23: the class, the standing, twelve key zeros with
stuff bits at 15 and 22. -/
theorem test_stuffed_take :
    (({ head := { standing := .delegate, key := 14, sender := 212 }, body := .take 0 false false : Frame }).image.map
      TxBit.value).take 23 =
      [false, true, false, false, false, true, true, true, false, false, false, false, false, false, true,
       false, false, false, false, false, false, true, false] := by decide

/-- Section 2.4's example: the ORDER of sender 88 is clamped to L 8, G 60, C 1. -/
theorem test_order_clamped :
    screen { head := { standing := .chair, key := 0, sender := 88 }, body := .order 88 5 2 12 0 62 0 true } =
      .clamped { head := { standing := .chair, key := 0, sender := 88 }, body := .order 88 5 2 8 0 60 1 true } := by decide

/-- Section 2.4's example: the same body with standing DELEGATE is discarded. -/
theorem test_order_discarded :
    screen { head := { standing := .delegate, key := 0, sender := 141 }, body := .order 88 5 2 12 0 62 0 true } =
      .discarded := by decide

/-- Section 4.7's example: the HOLD of 44 is learnt, and the view tick ages and silences it. -/
theorem test_learnt_lane :
    (after .viewTick (after (.holdArrival { standing := .delegate, key := 2, sender := 44 } 75 false false) hearing)).lanes[2] =
      .held { holder := 44, standing := .delegate, ticket := 0, age := 76, silence := 1, muting := false, warned := false } := by
  decide

/-- Section 4.10's view. -/
def exampleView : State :=
  { idle with
    addr := 212
    lanes := #v[heldBy 300 .chair 900, heldBy 44 .delegate 240, .free, heldBy 610 .priority 240, heldBy 90 .delegate 240,
                .free, heldBy 57 .delegate 95, .free] }

/-- Section 4.10's example: d = 3, the free list 2, 5, 7, and lane 1 the oldest. -/
theorem test_counts_and_oldest :
    exampleView.delegateLanes = 3 ∧ exampleView.freeLanes = [2, 5, 7] ∧ exampleView.oldestLane [.delegate] = some 1 ∧
      exampleView.oldestLane [.priority, .delegate] = some 1 := by decide

/-- Section 6.3's example: the sequences 2, 130 and 129 after 250. -/
theorem test_order_comparison :
    let r : OrderRec := { idle.order with sequence := 250, source := 150, origin := .line }
    adopts r 250 300 = false ∧ adopts r 2 500 = true ∧ adopts { r with sequence := 2, source := 500 } 130 400 = false ∧
      adopts { r with sequence := 2, source := 500 } 129 400 = true := by decide

/-- Section 8.6's example: the tick with pending +60 makes 30 into 90, without a decrement. -/
theorem test_extension :
    (after .speechTick { live with st := { live.st with remaining := 30, correction := 60 } }).st.remaining = 90 := by decide

/-- Section 8.6's example: 20 − 25 under a mute warns into the grace, still paused. -/
theorem test_correction_under_mute :
    let t := after .speechTick
      { live with st := { live.st with phase := .paused .running, remaining := 20, correction := -25 } }
    t.seat = .warned lane2 ∧ t.st.remaining = 10 ∧ t.st.phase = .paused .grace := by decide

/-- Section 9.1's example: the samples from 0 toward 100. -/
theorem test_envelope :
    stepEnvelope 0 100 = 6400 ∧ stepEnvelope 6400 100 = 11200 ∧ stepEnvelope 17500 100 = 19525 ∧
      stepEnvelope 25600 0 = 25200 ∧ stepEnvelope 25200 0 = 24807 := by decide

/-- Section 9.3's example: a sum of 47923 under profile 0 gives the threshold 35. -/
theorem test_trim :
    (after .trimCompletion { idle with vu := { idle.vu with trim := some { count := 2047, sum := 47923 } } }).vu.threshold = 35 :=
  by decide

/-- R44, R110: TALK at an IDLE delegate in OPEN with the hall empty places a TAKE of lane 0. -/
theorem test_talk_takes :
    (after (.panelKey 1 1) idle).sq.floor = some { content := .take, count := 0 } ∧
      (after (.panelKey 1 1) idle).seat.isTaking = true := by decide

/-- R180: the byte 0x07 is answered UNKNOWN. -/
theorem test_unknown_answer :
    (after (.unknownCommand 0x07) idle).pp.transaction =
      some { command := 0x07, status := 6, response := [], lastByte := .nothing, clocked := 0 } := by decide

/-- R179, R180: a SEND_DIRECT's bytes, most significant first. -/
theorem test_send_direct_bytes :
    panelCommand [0x21, 0x01, 0x2C, 0x02, 0xFF, 0xE7] = some (.sendDirect 300 2 (BitVec.ofInt 16 (-25))) := by decide

/-- The steps of a list of pin events, with no command waiting. -/
def atPins (events : List PinEvent) (s : State) : State :=
  events.foldl (fun u _ => match step u with
    | .next t => t
    | _ => u) { s with pins := events }

/-- The edges that clock one byte in on PDI, most significant bit first. -/
def byteIn (b : Nat) : List PinEvent := (bitsMsb 8 b).flatMap fun d => [.pclkRise d, .pclkFall]

/-- R179, R180: UNKNOWN (status 6) is clocked out after the command byte 0x07: 0, 0, 0, 0, 0, 1, 1, 0. -/
theorem test_status_on_pdo :
    (List.range 8).map (fun n =>
      (atPins (.pselFall :: byteIn 0x07 ++ (List.replicate n [PinEvent.pclkRise false, .pclkFall]).flatten) idle).pdo) =
      [some false, some false, some false, some false, some false, some true, some true, some false] := by decide

/-- R179, R186: PSEL rises after TAKE_EVENT's execution and before its last byte: the entry stays at the head, unmarked, and PDO is
released. -/
theorem test_event_unmarked :
    let s : State := { idle with pp := { idle.pp with events := [{ event := .lineStuck, stamp := 9 }] } }
    let t := atPins (.pselFall :: byteIn 0x04) s
    let u := atPins (.pselFall :: byteIn 0x04 ++ [.pselRise]) s
    t.pp.reading = true ∧ t.pdo = some false ∧ u.pp.reading = false ∧ u.pp.events.length = 1 ∧ u.pdo = none := by decide

/-! ## Witnesses: the machine and its laws -/

/-- A view tick waits in front of a read. -/
theorem witness_StepRunsTheFrontCommand :
    ({ live with pending := [.viewTick, .readLanes] } : State).pending = .viewTick :: [.readLanes] := rfl

theorem witness_ResetAssertSilencesTheStation :
    live.resetLow = false ∧ ({ live with resetLow := true } : State).resetLow = true := ⟨rfl, rfl⟩

theorem witness_ResetReleaseLatchesStrapsAndResets : ({ live with resetLow := true } : State).resetLow = true := rfl

/-- A speaking seat in a floor of three lanes, a line of one and an order from the line, with a view tick to come. -/
def busy : State :=
  { live with
    pending := [.viewTick]
    lanes := #v[heldBy 300 .chair 12, .free, heldBy 1 .delegate 40, .free, .free, .free, .free, heldBy 77 .priority 65535]
    mutes := [{ chair := 300, silence := 2 }]
    window := [{ asker := 9, ticket := 4, standing := .delegate, silence := 1 }]
    mark := 65535
    order := { mode := .moderated, laneLimit := 8, allowance := 255, grace := 60, capacity := 1, sequence := 255,
               source := 1000, origin := .line } }

/-- No address holds two lanes of the busy floor. -/
theorem busy_viewLaw : busy.ViewLaw := by
  intro i j a
  fin_cases i <;> fin_cases j <;> simp [busy, heldBy, Lane.holder?] <;> omega

theorem witness_EveryStepKeepsTheViewLaw :
    busy.ViewLaw ∧ busy.ViewRanges ∧ step busy = .next (after .viewTick { busy with pending := [] }) := by
  refine ⟨busy_viewLaw, ⟨?_, by decide, by decide, by decide, by decide⟩, rfl⟩
  intro i
  fin_cases i <;> simp [busy, heldBy, Lane.InRange]

theorem witness_EveryStepKeepsTheWindowLaw :
    busy.WindowLaw ∧ step busy = .next (after .viewTick { busy with pending := [] }) := by
  unfold State.WindowLaw
  exact ⟨by decide, rfl⟩

theorem witness_EveryStepKeepsTheRecordRanges :
    busy.order.InRange ∧ busy.st.InRange ∧ busy.ChairLaw ∧ busy.VoiceLaw ∧
      step busy = .next (after .viewTick { busy with pending := [] }) := by
  unfold OrderRec.InRange SpeechTimer.InRange State.ChairLaw State.VoiceLaw
  refine ⟨by decide, by decide, by decide, ⟨by decide, by decide, by decide, by decide, by decide, ?_⟩, rfl⟩
  intro t h
  cases h

/-- The busy floor's panel port keeps its law. -/
theorem busy_panelLaw : busy.PanelLaw := by
  refine ⟨by decide, by decide, by decide, fun _ => ⟨by decide, by decide, ?_, by decide⟩, by decide⟩
  intro t h
  cases h

theorem witness_EveryStepKeepsTheQueuesBounded :
    busy.PanelLaw ∧ busy.sq.InRange ∧ busy.li.InRange ∧
      step busy = .next (after .viewTick { busy with pending := [] }) := by
  unfold SendQ.InRange LineIf.InRange
  refine ⟨busy_panelLaw, ⟨by decide, by decide, ?_, ?_, ?_, ?_, by decide⟩, by decide, rfl⟩ <;> intro x h <;> cases h

theorem witness_NoStepLeavesARestartDone :
    busy.restartDone = false ∧ step busy = .next (after .viewTick { busy with pending := [] }) := ⟨by decide, rfl⟩

/-! ## Witnesses: the line and the Send Queue -/

/-- An ASK of delegate 5 with ticket 7. -/
def askFrame : Frame := { head := head 7, body := .ask false }

/-- The free line before a frame. -/
def freeLine : State := { idle with li := { LineIf.reset with idleCount := 10 } }

/-- R3, R5: the first dominant bit on a free line starts a frame, and the line is no longer free. -/
theorem test_lead_ends_the_free_line :
    (readBit false freeLine).li.status = .lead ∧ (readBit false freeLine).li.idleCount = 0 := by decide

/-- The sender's state at the head of a frame: LI has loaded it at a start boundary. -/
def sending (f : Frame) (slot : SlotId) : State := launch { slot := slot, frame := f } freeLine

/-- The free line, and a sender before its lead. -/
theorem witness_FrameOnTheLineIsReceivedWhole :
    (freeLine.li.status = .idle ∧ freeLine.li.idleCount = 10 ∧ freeLine.li.burstLeft = 0 ∧ freeLine.li.dominantRun = 0) ∧
    (let s := sending askFrame .floor
     s.li.status = .lead ∧ s.li.leadBits = 0 ∧ s.li.runLength = 0 ∧ s.li.rx = [] ∧ s.li.crc = 0xFFFF ∧
       s.li.tx = askFrame.image ∧ s.li.bitFault = false ∧ s.li.dominantRun = 0) := by
  refine ⟨by decide, ?_⟩
  exact ⟨rfl, rfl, rfl, rfl, rfl, rfl, rfl, rfl⟩

/-- A field bit of an image. -/
def fieldBit (v : Bool) : TxBit := { value := v, part := .field }

/-- A sender with the rest of its image, after a bit fault or none. -/
def midImage (b : TxBit) (rest : List TxBit) (fault : Bool) : State :=
  { sending askFrame .floor with
    li := { LineIf.reset with status := .arbitrating, dominantRun := 62, tx := b :: rest, bitFault := fault } }

/-- A sender before a recessive field bit, before another bit, and after a bit fault, with its last bit and with more to come. -/
theorem witness_FrameOnTheLineIsReceivedWhole_sender :
    ∀ b ∈ [fieldBit true, fieldBit false, { value := false, part := .stuff }], ∀ rest ∈ [[], [fieldBit true]],
      ∀ fault ∈ [true, false],
      let s := midImage b rest fault
      s.Ready ∧ s.seat ≠ .listen ∧ s.li.burstLeft = 0 ∧ s.li.dominantRun < 63 ∧ s.li.tx = b :: rest ∧
        s.li.status = .arbitrating ∧ s.sq.inFlight = some { slot := .floor, frame := askFrame } ∧
        s.sq.heldFor .floor = false ∧ s.flags.cancelLatch = none ∧ s.flags.restartPending = false := by
  intro b _ rest _ fault _
  exact ⟨⟨rfl, rfl⟩, (by decide : Seat.idle ≠ .listen), rfl, (by decide : 62 < 63), rfl, rfl, rfl, rfl, rfl, rfl⟩

theorem witness_ScreeningFollowsTheTables : actingFrame askFrame = some askFrame := by decide

/-- A pending refresh, a HOLD and a TAKE of a seat that is taking a lane. -/
def taking (k : TakeKind) (displace : Bool) (mode : Mode) : IntendedTake :=
  { kind := k, lane := 2, key := 0, displace := displace, muting := false, mode := mode, grantor := 300 }

/-- The seat taking a lane, with its TAKE pending. -/
def takingSeat (k : TakeKind) (displace : Bool) : State :=
  { hearing with
    seat := .taking (taking k displace .openFloor)
    ownAsk := .live 4
    sq := { SendQ.reset with floor := some { content := .take, count := 0 } } }

/-- R164: TALK at a chair with priority held set converts its PRIORITY take in flight, and the latch set by a release stays. -/
theorem test_conversion_in_flight :
    let s : State :=
      { flying .sending .floor { head := head 0, body := .take 2 false true } (takingSeat .priority false) with
        role := .chair, flags := { SeatFlags.reset with priorityHeld := true, cancelLatch := some .key } }
    (after (.panelKey 1 1) s).seat = .taking (taking .key false .openFloor) ∧
      (after (.panelKey 1 1) s).flags.cancelLatch = some .key := by decide

/-- A start boundary with a frame of each slot alone in the queue, a FLOOR slot with each of its four frames, and a new ASK at Mark
65535; a refresh and a HOLD with nothing to say. -/
theorem witness_StartBoundaryOffersTheLowestFrame :
    let meets (s : State) : Prop := s.Ready ∧ s.li.status = .idle ∧ s.sq.inFlight = none ∧ s.li.burstLeft = 0 ∧
      s.flags.restartPending = false
    let slotOf (s : State) : Option SlotId := (after .startBoundary s).sq.inFlight.map Flight.slot
    let floor (c : FloorFrame) : SendQ := { SendQ.reset with floor := some { content := c, count := 0 } }
    let speaking : State := { live with li := LineIf.reset, ownAsk := .live 4 }
    let asking : State := { idle with seat := .asking, ownAsk := .pending, sq := floor .ask }
    let cases : List (SlotId × State) :=
      [(.order, { idle with role := .chair, sq := { SendQ.reset with order := some { content := .repeated, count := 0 } } }),
       (.direct, { idle with role := .chair,
                             sq := { SendQ.reset with direct := [{ content := ⟨9, 1, 0⟩, count := 3 }] } }),
       (.floor, { takingSeat .key false with li := LineIf.reset }), (.floor, asking),
       (.floor, { idle with seat := .yielding lane2 .priorityEnd, sq := floor (.yield 2 .priorityEnd) }),
       (.floor, { idle with sq := floor (.withdraw 4 .restart) }),
       (.askref, { waiting with li := LineIf.reset, sq := { SendQ.reset with askref := some 0 } }),
       (.hold, { speaking with sq := { SendQ.reset with hold := some 0 } }),
       (.hold, { speaking with seat := .warned lane2, sq := { SendQ.reset with hold := some 0 } })]
    (∀ x ∈ cases, meets x.2 ∧ slotOf x.2 = some x.1) ∧
    (meets { asking with mark := 65535 } ∧ asking.sq.floor = some { content := .ask, count := 0 } ∧ asking.mark < 65535) ∧
    (idle.ownAsk = .none ∧ idle.seat.speaking? = none) := by
  simp only [State.Ready]; decide

/-- The first clause with a displacement whose lane has become FREE; the second with one whose lane is HELD, with one whose mode
has changed, and with a plain take of each kind. -/
theorem witness_RestatedTakeFollowsItsDecision :
    (let s := takingSeat .key true
     s.seat = .taking (taking .key true .openFloor) ∧ s.sq.inFlight = none ∧ s.lanes[(2 : Fin 8)].isFree = true ∧
       s.order.mode = .openFloor) ∧
    (let s : State := { takingSeat .key true with lanes := busy.lanes.set 2 (heldBy 9 .delegate 4) }
     s.seat = .taking (taking .key true .openFloor) ∧ s.sq.inFlight = none ∧ s.lanes[(2 : Fin 8)].isFree = false) ∧
    (let s : State := { takingSeat .key true with order := { idle.order with mode := .override } }
     s.seat = .taking (taking .key true .openFloor) ∧ s.sq.inFlight = none ∧ s.order.mode ≠ .openFloor) ∧
    (∀ k : TakeKind, k ∈ [TakeKind.key, .line, .grant, .voice, .priority] →
      (takingSeat k false).seat = .taking (taking k false .openFloor) ∧ (taking k false .openFloor).kind = k ∧
        (takingSeat k false).sq.inFlight = none) ∧
    (takingSeat .key false).mark < 65535 ∧ (takingSeat .key false).window.length < (takingSeat .key false).order.capacity ∧
      ({ takingSeat .voice false with order := { idle.order with mode := .voice } } : State).order.mode = .voice := by
  decide

theorem witness_DiscardEmptiesTheBufferAndMayBurst : hearing.Ready ∧ hearing.receives = true := by
  unfold State.Ready; decide

/-- A frame lost in arbitration, with one held behind it in each of the four slots; an ASK and a TAKE lost with the latch set;
and an ASK lost, and a HOLD objected for the third time, with nothing held. -/
theorem witness_FailedAttemptsKeepTheFrame :
    (∀ slot : SlotId, slot ∈ [SlotId.order, .floor, .askref, .hold] →
      let s := flying .arbitrating slot askFrame { idle with sq := { SendQ.reset with
        nextOrder := some .fromRecord, floorHeld := some .ask, askrefHeld := true, holdHeld := true } }
      s.Ready ∧ s.sq.inFlight = some { slot := slot, frame := askFrame } ∧ s.flags.restartPending = false ∧
        s.flags.cancelLatch = none ∧ s.li.status = .arbitrating ∧ s.li.bitFault = false ∧
        s.sq.nextOrder = some .fromRecord ∧ s.sq.floorHeld = some .ask ∧ s.sq.askrefHeld = true ∧ s.sq.holdHeld = true) ∧
    (let s := flying .lead .floor askFrame
       { idle with seat := .asking, ownAsk := .pending, flags := { idle.flags with cancelLatch := some .key } }
     s.Ready ∧ s.flags.cancelLatch = some .key ∧ Cause.key ≠ .restart ∧ s.li.status = .lead ∧ s.li.bitFault = false ∧
       s.sq.floorHeld = none ∧ s.flags.restartPending = false ∧ s.seat = .asking ∧ s.ownAsk = .pending) ∧
    (let s := flying .lead .floor { head := head 4, body := .take 2 false false }
       { takingSeat .line false with flags := { idle.flags with cancelLatch := some .panel } }
     s.Ready ∧ s.flags.cancelLatch = some .panel ∧ s.li.status = .lead ∧ s.li.bitFault = false ∧ s.sq.floorHeld = none ∧
       s.flags.restartPending = false ∧ s.seat = .taking (taking .line false .openFloor)) ∧
    (let s := flying .arbitrating .floor askFrame idle
     s.Ready ∧ s.sq.heldFor .floor = false ∧ s.flags.restartPending = false ∧ s.flags.cancelLatch = none ∧
       s.li.status = .arbitrating ∧ s.li.bitFault = false) ∧
    (let s := flying .slot .hold askFrame { idle with sq := { SendQ.reset with hold := some 2 } }
     s.Ready ∧ s.sq.heldFor .hold = false ∧ s.flags.restartPending = false ∧ s.flags.cancelLatch = none ∧
       s.sq.holds .hold = true ∧ s.flightCount .hold < 3) := by
  unfold State.Ready; decide

/-- The seat with a FLOOR frame in flight that has been objected to three times. -/
def thriceObjected (c : FloorFrame) (b : Body) (s : State) : State :=
  flying .slot .floor { head := head 2, body := b } { s with sq := { SendQ.reset with floor := some { content := c, count := 3 } } }

/-- A HOLD, a WITHDRAW, a YIELD of a yielding seat, an ASK of an asking one, a take from the line, a delegate's KEY take in OPEN
and a VOICE take, each objected three times. -/
theorem witness_FourthObjectionDropsTheFrame :
    let meets (slot : SlotId) (s : State) : Prop :=
      s.Ready ∧ s.sq.heldFor slot = false ∧ s.flightCount slot = 3 ∧ s.flags.restartPending = false ∧ s.flags.cancelLatch = none
    meets .hold (flying .slot .hold askFrame { idle with sq := { SendQ.reset with hold := some 3 } }) ∧
    meets .floor (thriceObjected (.withdraw 4 .key) (.withdraw 0) idle) ∧
    meets .floor (thriceObjected (.yield 2 .key) (.yield 2 0) { idle with seat := .yielding lane2 .key }) ∧
    (let s := thriceObjected .ask (.ask false) { idle with seat := .asking, ownAsk := .pending }
     meets .floor s ∧ s.seat = .asking ∧ s.pp.events.length ≤ 14 ∧ ∀ r ∈ s.pp.events, r.event ≠ .overrun) ∧
    (let s := thriceObjected .take (.take 2 false false) (takingSeat .line false)
     meets .floor s ∧ s.seat = .taking (taking .line false .openFloor)) ∧
    (let s := thriceObjected .take (.take 2 false false) (takingSeat .key false)
     meets .floor s ∧ s.seat = .taking (taking .key false .openFloor) ∧ s.role = .delegate ∧ s.order.mode = .openFloor ∧
       (taking .key false .openFloor).key = 0 ∧ s.mark < 65535 ∧ s.window.length < s.order.capacity) ∧
    (let s := thriceObjected .take (.take 2 false false) (takingSeat .voice false)
     meets .floor s ∧ s.seat = .taking (taking .voice false .openFloor) ∧ s.pp.events.length ≤ 14 ∧
       ∀ r ∈ s.pp.events, r.event ≠ .overrun) := by
  simp only [State.Ready]; decide

/-- A TAKE by the key, without a latch and with one, and one by voice of a talker who has fallen silent. -/
theorem witness_CompletedTakeStartsTheSpeech :
    let h : Header := { standing := .delegate, key := 0, sender := 1 }
    let s := flying .slot .floor { head := h, body := .take 2 false false } (takingSeat .key false)
    s.Ready ∧ s.seat = .taking (taking .key false .openFloor) ∧ s.flags.cancelLatch = none ∧
      s.flags.restartPending = false ∧ s.li.bitFault = false ∧ s.role ≠ .listener ∧ h.sender.toNat = s.addr ∧
      1 ≤ s.addr ∧ s.addr ≤ 1000 ∧ h.standing = s.role ∧ s.sq.floorHeld = none ∧ s.vu.release < s.prof.releaseHold ∧
      s.sq.inFlight = some
        { slot := .floor, frame := { head := h, body := .take (BitVec.ofNat 3 2) false (s.isChair && false) } } ∧
      (let u : State := { s with flags := { s.flags with cancelLatch := some .key } }
       u.Ready ∧ u.flags.cancelLatch = some .key ∧ Cause.key ≠ .restart ∧ u.st.speaking = false) ∧
      (let u : State := { flying .slot .floor { head := h, body := .take 2 false false } (takingSeat .voice false) with
         vu := { idle.vu with release := idle.prof.releaseHold } }
       u.Ready ∧ u.seat = .taking (taking .voice false .openFloor) ∧ u.flags.cancelLatch = none ∧
         u.prof.releaseHold ≤ u.vu.release) := by
  unfold State.Ready; decide

/-- The three clauses: without a latch in MODERATED and in OPEN, and with a latch. -/
theorem witness_CompletedAskFixesItsTicket :
    let h : Header := { standing := .delegate, key := 1, sender := 1 }
    let s := flying .slot .floor { head := h, body := .ask false }
      { idle with seat := .asking, ownAsk := .pending, order := { idle.order with mode := .moderated },
                  sq := { SendQ.reset with floor := some { content := .ask, count := 0 } } }
    s.Ready ∧ s.seat = .asking ∧ s.flags.restartPending = false ∧ s.li.bitFault = false ∧ s.ownAsk = .pending ∧
      h.sender.toNat = s.addr ∧ 1 ≤ s.addr ∧ s.addr ≤ 1000 ∧ s.isDelegateSeat = true ∧ h.standing = s.role ∧
      1 ≤ h.key.toNat ∧ s.sq.floorHeld = none ∧ Cause.panel ≠ .restart ∧
      s.sq.inFlight = some { slot := .floor, frame := { head := h, body := .ask false } } ∧
      s.flags.cancelLatch = none ∧ s.order.mode ≠ .openFloor ∧
      ({ s with order := idle.order } : State).order.mode = .openFloor ∧
      ({ s with flags := { s.flags with cancelLatch := some .panel } } : State).flags.cancelLatch = some .panel := by
  unfold State.Ready; decide

theorem witness_StuckLineHoldsThePendingFrames :
    (idle.Ready ∧ idle.li.status ≠ .stuck ∧ idle.sq.inFlight = none) ∧
    (let s := flying .sending .hold askFrame idle
     s.Ready ∧ s.li.status ≠ .stuck ∧ s.sq.heldFor .hold = false ∧ s.flags.restartPending = false ∧
       s.flags.cancelLatch = none) ∧
    (let s : State := { idle with li := { LineIf.reset with status := .stuck, idleCount := 9 } }
     s.Ready ∧ s.li.status = .stuck ∧ s.sq.Idle ∧ s.flags.restartPending = false ∧
      (let u : State := { s with role := .chair, sq := { SendQ.reset with order := some { content := .repeated, count := 2 } } }
       u.Ready ∧ u.li.status = .stuck ∧ u.sq.inFlight = none ∧ u.pp.events.length ≤ 13 ∧
         (∀ x ∈ u.pp.events, x.event ≠ .overrun) ∧ (after .lineClear u).sq.inFlight.isSome = true)) := by
  unfold State.Ready SendQ.Idle; decide

/-! ## Witnesses: arrivals -/

/-- A waiting seat whose view the arrival moves. -/
def MovesAtWaiting (c : Instr) (h : Header) (s : State) : Prop :=
  s.Hears h ∧ s.ownAsk = .live 4 ∧ s.seat = .waiting ∧ s.Moved (after c s)

theorem witness_TakeArrivalGivesTheLaneToItsSender :
    (hearing.Hears (head 7) ∧ hearing.seat ≠ .waiting ∧ hearing.seat.own? = none) ∧
    MovesAtWaiting (.takeArrival (head 7) 7 false false) (head 7) waiting ∧
    (waiting.Hears chairHead ∧ ¬ waiting.Moved (after (.directCutArrival chairHead 9 0) waiting)) := by
  unfold MovesAtWaiting State.Hears State.Ready State.Moved; decide

/-- No address holds two lanes of an empty floor. -/
theorem live_viewLaw : live.ViewLaw := by
  intro i j a h
  fin_cases i <;> exact absurd h (by simp [live, hearing, idle, State.reset, Lane.holder?])

/-- Speaking, and yielding. -/
theorem witness_TakeOfTheOwnLaneEndsTheSpeech :
    (live.Hears (head 7) ∧ live.seat.own? = some lane2 ∧ lane2.lane = laneOf 2 ∧ live.seat.speaking? = some lane2 ∧
      live.st.speaking = true ∧ live.ViewLaw ∧ live.pp.events.length ≤ 8 ∧ ∀ r ∈ live.pp.events, r.event ≠ .overrun) ∧
    (let s : State := { live with seat := .yielding lane2 .key }
     s.Hears (head 7) ∧ s.seat.own? = some lane2 ∧ s.seat.speaking? = none) := by
  unfold State.Hears State.Ready
  exact ⟨⟨by decide, by decide, by decide, by decide, by decide, live_viewLaw, by decide, by decide⟩, by decide⟩

/-- A lane of no one's interest, and the lane of the sender at a waiting seat. -/
theorem witness_YieldArrivalFreesTheLaneOfItsSender :
    (hearing.Hears (head 7) ∧ (head 7).key.toNat = (7 : BitVec 3).toNat ∧ hearing.seat ≠ .waiting) ∧
    (let s : State := { waiting with lanes := waiting.lanes.set 7 (heldBy 5 .delegate 4) }
     s.Hears (head 7) ∧ s.ownAsk = .live 4 ∧ s.seat = .waiting ∧ s.lanes[laneOf 7].holder? = some (head 7).sender.toNat) := by
  unfold State.Hears State.Ready; decide

/-- A FREE lane, a lane held by a lower address, and the own lane claimed from a higher and from a lower address, at a delegate
and at a muting chair. -/
theorem witness_HoldArrivalLearnsRefreshesOrSettles :
    (hearing.Hears (head 7) ∧ (head 7).key.toNat = (7 : Fin 8).val ∧ hearing.seat ≠ .waiting) ∧
    (let s : State := { hearing with lanes := hearing.lanes.set 7 (heldBy 4 .delegate 0) }
     s.Hears (head 7) ∧ s.lanes[(7 : Fin 8)].heldBelow (head 7).sender.toNat = true) ∧
    (live.Hears (head 2) ∧ (head 2).key.toNat = (2 : Fin 8).val ∧ live.seat.speaking? = some lane2 ∧
      (head 2).standing ≠ .chair ∧ live.addr < (head 2).sender.toNat) ∧
    (let s : State := { live with addr := 6 }
     s.Hears (head 2) ∧ s.seat.speaking? = some lane2 ∧ (head 2).sender.toNat < s.addr ∧ s.st.speaking = true ∧
       s.pp.events.length ≤ 8 ∧ ∀ r ∈ s.pp.events, r.event ≠ .overrun) ∧ live.ViewLaw ∧
    (let s : State := { live with addr := 6, role := .chair, seat := .live { lane2 with muting := true } }
     s.Hears (head 2) ∧ s.seat.speaking? = some { lane2 with muting := true } ∧ (head 2).sender.toNat < s.addr) ∧
    MovesAtWaiting (.holdArrival (head 7) 40 false false) (head 7) waiting := by
  unfold MovesAtWaiting State.Hears State.Ready State.Moved
  exact ⟨by decide, by decide, by decide, by decide, live_viewLaw, by decide, by decide⟩

/-- A muting TAKE at a timed delegate, at an untimed one and at a chair; and the clearing HOLD of the last muting chair. -/
theorem witness_MuteClosesGatesAndPausesTimers :
    (live.Hears chairHead ∧ chairHead.standing = .chair ∧ live.flags.clash = false ∧ live.seat = .live lane2 ∧
      live.ChairLaw ∧ lane2.lane ≠ laneOf 0 ∧ live.mutes = [] ∧ live.st.phase = .counting .running ∧ live.role ≠ .chair) ∧
    (let s : State := { live with seat := .warned lane2, st := { live.st with phase := .idle, remaining := 0, speechGrace := 0 } }
     s.Hears chairHead ∧ s.seat = .warned lane2 ∧ s.ChairLaw ∧ s.mutes = [] ∧
      (let u : State := { s with role := .chair, seat := .live lane2 }
       u.Hears chairHead ∧ u.seat = .live lane2 ∧ u.ChairLaw ∧ u.mutes = [] ∧ u.role = .chair)) ∧
    (let s : State := { live with mutes := [{ chair := 300, silence := 2 }], st := { live.st with phase := .paused .running } }
     s.Hears chairHead ∧ s.seat = .live lane2 ∧ s.ChairLaw ∧ lane2.lane ≠ 0 ∧ chairHead.key.toNat = (0 : Fin 8).val ∧
      s.mutes = [{ chair := chairHead.sender.toNat, silence := 2 }]) := by
  unfold State.Hears State.Ready State.ChairLaw; decide

/-- Everyone cut, this seat cut, and a chair that is not. -/
theorem witness_CutArrivalFreesDelegateLanes :
    (live.Hears chairHead ∧ chairHead.standing = .chair ∧ chairHead.key.toNat = 0 ∧ (0 : AddrBits).toNat ≤ 1000 ∧
      (1 : AddrBits).toNat = live.addr ∧ live.isDelegateSeat = true ∧ live.seat = .live lane2 ∧ live.st.speaking = true) ∧
    (let s : State := { live with role := .chair }
     s.Hears chairHead ∧ (1000 : AddrBits).toNat ≤ 1000 ∧ s.isDelegateSeat = false ∧ s.seat ≠ .waiting) ∧
    MovesAtWaiting (.directCutArrival chairHead 9 0) chairHead
      { waiting with lanes := waiting.lanes.set 7 (heldBy 9 .delegate 4) } := by
  unfold MovesAtWaiting State.Hears State.Ready State.Moved; decide

/-- The target waiting with a free lane, and with none. -/
theorem witness_GrantArrivalMakesItsTargetTake :
    (waiting.Hears chairHead ∧ chairHead.key.toNat = 0 ∧ 1 ≤ (1 : AddrBits).toNat ∧ (1 : AddrBits).toNat ≤ 1000 ∧
      (1 : AddrBits).toNat = waiting.addr ∧ waiting.isDelegateSeat = true ∧ waiting.freeLanes ≠ []) ∧
    (let s : State :=
       { waiting with lanes := #v[heldBy 21 .chair 0, heldBy 22 .chair 0, heldBy 23 .chair 0, heldBy 24 .chair 0,
                                  heldBy 25 .chair 0, heldBy 26 .chair 0, heldBy 27 .chair 0, heldBy 28 .chair 0] }
     s.Hears chairHead ∧ s.freeLanes = []) := by
  unfold State.Hears State.Ready; decide

theorem witness_ExtendArrivalAddsToThePendingCorrection :
    live.Hears chairHead ∧ chairHead.standing = .chair ∧ chairHead.key.toNat = 0 ∧ (1 : AddrBits).toNat = live.addr ∧
      (1000 : AddrBits).toNat ≤ 1000 ∧ live.st.phase ≠ .idle := by
  unfold State.Hears State.Ready; decide

/-- A full window of tickets 1 to 32. -/
def fullWindow : State :=
  { hearing with
    mark := 32
    window := (List.range 32).map fun n => { asker := 100 + n, ticket := n + 1, standing := .delegate, silence := 0 } }

/-- This station's ask dropped, and another's. -/
theorem witness_DropAskArrivalEndsTheTargetsAsk :
    (waiting.Hears chairHead ∧ chairHead.standing = .chair ∧ chairHead.key.toNat = 0 ∧ (1 : AddrBits).toNat = waiting.addr ∧
      waiting.ownAsk ≠ .none) ∧
    (hearing.Hears chairHead ∧ (1000 : AddrBits).toNat ≠ hearing.addr ∧ hearing.seat ≠ .waiting) ∧
    MovesAtWaiting (.directDropAskArrival chairHead 131 0) chairHead { fullWindow with seat := .waiting, ownAsk := .live 4 } ∧
    (let s : State := { hearing with sq := { SendQ.reset with floor := some { content := .withdraw 4 .key, count := 0 } } }
     s.Hears chairHead ∧ s.seat = .idle) := by
  unfold MovesAtWaiting State.Hears State.Ready State.Moved; decide

/-- A new pair at a full window, and the refresh of an entry; neither at a waiting seat. -/
theorem witness_AskArrivalKeepsTheLowestPairs :
    let h : Header := { standing := .delegate, key := 1, sender := 100 }
    (fullWindow.Hears (head 7) ∧ fullWindow.WindowLaw ∧ (head 7).standing ≠ .chair ∧ 1 ≤ (head 7).key.toNat ∧
      (∀ x ∈ fullWindow.window, ¬ (x.asker = 5 ∧ x.ticket = 7)) ∧ fullWindow.window.length = 32 ∧
      fullWindow.seat ≠ .waiting) ∧
    (fullWindow.Hears h ∧ 1 ≤ h.key.toNat ∧ ∃ x ∈ fullWindow.window, x.asker = 100 ∧ x.ticket = 1) ∧
    MovesAtWaiting (.askArrival (head 7) false) (head 7) { fullWindow with seat := .waiting, ownAsk := .live 4 } := by
  unfold MovesAtWaiting State.Hears State.Ready State.Moved State.WindowLaw; decide

/-- The last entry of a full window, at an IDLE seat and at a waiting one; and a ticket that no entry has. -/
theorem witness_WithdrawArrivalRemovesTheMatchingEntry :
    let h : Header := { standing := .delegate, key := 32, sender := 131 }
    (fullWindow.Hears h ∧ h.standing ≠ .chair ∧ 1 ≤ h.key.toNat ∧
      (∃ e ∈ fullWindow.window, e.asker = 131 ∧ e.ticket = 32) ∧ fullWindow.seat ≠ .waiting) ∧
    (let s : State := { fullWindow with seat := .waiting, ownAsk := .live 31 }
     s.Hears h ∧ s.ownAsk = .live 31 ∧ s.seat = .waiting ∧ ∃ e ∈ s.window, e.asker = h.sender.toNat ∧ e.ticket = h.key.toNat) ∧
    (fullWindow.Hears (head 7) ∧ ∀ e ∈ fullWindow.window, ¬ (e.asker = 5 ∧ e.ticket = 7)) := by
  unfold State.Hears State.Ready; decide

/-- The distances 127, 128, 255 and 0 from sequence 2, and an ignored ORDER. -/
theorem witness_OrdersAreComparedBySequenceAndSource :
    let r : OrderRec := { idle.order with sequence := 2, source := 500, origin := .line }
    idle.order.origin = .profile ∧ r.origin = .line ∧ ((129 : BitVec 8).toNat + 256 - 2) % 256 = 127 ∧
      ((130 : BitVec 8).toNat + 256 - 2) % 256 = 128 ∧ ((1 : BitVec 8).toNat + 256 - 2) % 256 = 255 ∧
      ((2 : BitVec 8).toNat + 256 - 2) % 256 = 0 ∧ adopts r 130 (7 : AddrBits).toNat = false := by decide

/-- An adopted order at a waiting seat: one that clears the line, one that enters VOICE, and one that keeps OPEN under another
lane limit, after which the ask goes on; and an order that is ignored. -/
theorem witness_OrderArrivalIsAdoptedOrIgnored :
    (waiting.Hears chairHead ∧ chairHead.standing = .chair ∧ chairHead.key.toNat = 0 ∧ 1 ≤ (1000 : AddrBits).toNat ∧
      (1000 : AddrBits).toNat ≤ 1000 ∧ adopts waiting.order 0 1000 = true ∧ waiting.ownAsk = .live 4 ∧
      waiting.seat = .waiting) ∧
    (after (.orderArrival chairHead 300 1 0 3 60 10 32 true) waiting).ownAsk = .none ∧
    (let t := after (.orderArrival chairHead 300 1 3 3 60 10 32 false) waiting
     t.order.mode = .voice ∧ t.order.mode ≠ waiting.order.mode ∧ t.ownAsk = .none) ∧
    (let t := after (.orderArrival chairHead 300 1 0 3 60 10 32 false) waiting
     t.order.mode = .openFloor ∧ t.ownAsk = .live 4 ∧ t.order ≠ waiting.order) ∧
    (let s : State := { hearing with order := { idle.order with sequence := 5, source := 300, origin := .line } }
     s.Hears chairHead ∧ adopts s.order 4 1 = false) := by
  unfold State.Hears State.Ready; decide

/-- A seat TAKING by a kind, with its ask LIVE. -/
def lineTake (k : TakeKind) : State := { takingSeat k false with li := waiting.li, ownAsk := .live 4 }

/-- A WITHDRAW pending at an IDLE seat, a take from the line and one by the key, and a cough that leaves VOICE. -/
theorem witness_OrderArrivalIsAdoptedOrIgnored_seat :
    (let s : State := { hearing with sq := { SendQ.reset with floor := some { content := .withdraw 4 .key, count := 0 } } }
     s.Hears chairHead ∧ adopts s.order 1 300 = true ∧ s.seat = .idle) ∧
    (∀ s ∈ [lineTake .line, lineTake .grant, lineTake .key],
      s.Hears chairHead ∧ adopts s.order 1 300 = true ∧ s.ownAsk ≠ .none ∧ s.seat.isTaking = true) ∧
    (let s : State := { hearing with flags := { idle.flags with cough := true }, order := { idle.order with mode := .voice } }
     s.Hears chairHead ∧ s.flags.cough = true ∧ s.order.mode = .voice ∧
       (after (.orderArrival chairHead 300 1 0 3 60 10 32 false) s).order.mode = .openFloor) := by
  simp only [State.Hears, State.Ready]; decide

/-- A frame of a LISTENER, discarded; an action without a name; and this station's own ASK in flight. -/
theorem witness_AcceptedFramesReachTheFeedWhateverTheirVerdict :
    (let f : Frame := { head := { head 7 with standing := .listener }, body := .ask false }
     arrivalOf (.askArrival f.head false) = some f ∧ hearing.Ready ∧ hearing.receives = true ∧
       hearing.flags.restartPending = false ∧ f.head.sender.toNat ≠ hearing.addr ∧ screen f = .discarded) ∧
    (arrivalOf (.directAction47Arrival chairHead 0 7 0) = some { head := chairHead, body := .direct 0 7 0 } ∧
      4 ≤ (7 : BitVec 3).toNat) ∧
    (let s := flying .slot .floor askFrame { idle with seat := .asking, ownAsk := .pending }
     s.Ready ∧ s.sq.inFlight = some { slot := .floor, frame := askFrame } ∧ s.li.bitFault = false) := by
  unfold State.Ready; decide

theorem witness_AddressClashSilencesTheStation :
    let f : Frame := { head := { head 7 with sender := 1 }, body := .ask false }
    arrivalOf (.askArrival f.head false) = some f ∧ live.Ready ∧ live.receives = true ∧ f.head.sender.toNat = live.addr ∧
      live.seat ≠ .listen ∧ live.seat.speaking?.isSome = true := by
  unfold State.Ready; decide

/-! ## Witnesses: ticks -/

/-- A chair at the point of its repeat. -/
def repeating : State := { idle with role := .chair, sq := { SendQ.reset with repeatCount := 3 } }

/-- A speaking seat; a waiting one; and a chair whose repeat falls due, or is not due yet. -/
theorem witness_ViewTickAgesTheFloorAndPlacesHolds :
    (live.Ready ∧ live.SettlingLaw ∧ waiting.SettlingLaw ∧ repeating.SettlingLaw) ∧
    (waiting.Ready ∧ waiting.ownAsk = .live 4 ∧ waiting.seat = .waiting ∧ waiting.flags.restartPending = false ∧
      waiting.flying .floor = false) ∧
    (repeating.Ready ∧ (repeating.isChair && !repeating.seat.isSettling) = true ∧ repeating.seat ≠ .listen ∧
      repeating.flags.restartPending = false ∧ 3 ≤ repeating.sq.repeatCount ∧ repeating.sq.order = none ∧
      repeating.sq.nextOrder = none ∧ repeating.flying .order = false) ∧
    (({ repeating with sq := { SendQ.reset with repeatCount := 2 } } : State).sq.repeatCount < 3 ∧
      repeating.seat ≠ .settling 3) := by
  refine ⟨⟨?_, ?_, ?_, ?_⟩, ?_⟩
  · unfold State.Ready; decide
  · intro n h; cases h
  · intro n h; cases h
  · intro n h; cases h
  · unfold State.Ready; decide

/-- The third and the fourth view tick; the fourth with no press, with a press in MODERATED, and in VOICE. -/
theorem witness_SettlingEndsAtTheFourthViewTick :
    let s : State := { State.reset with seat := .settling 3 }
    (({ s with seat := .settling 2 } : State).Ready ∧ ({ s with seat := .settling 2 } : State).seat = .settling 2) ∧
      s.Ready ∧ s.seat = .settling 3 ∧ s.sq.Idle ∧ s.sq.inFlight = none ∧ s.ownAsk = .none ∧
      s.flags.pendingPress = false ∧
      (let u : State := { s with flags := { s.flags with pendingPress := true }, order := { s.order with mode := .moderated } }
       u.Ready ∧ u.sq.Idle ∧ u.flags.pendingPress = true ∧ u.role = .delegate ∧ u.order.mode = .moderated ∧
         u.mark < 65535 ∧ u.window.length < u.order.capacity) ∧
      (let u : State := { s with flags := { s.flags with pendingPress := true }, order := { s.order with mode := .voice } }
       u.Ready ∧ u.sq.Idle ∧ u.flags.pendingPress = true ∧ u.isDelegateSeat = true ∧ u.order.mode = .voice) := by
  unfold State.Ready SendQ.Idle; decide

theorem witness_OrdersAreRepeatedAndStampedFromTheRecord :
    (repeating.Ready ∧ repeating.role = .chair ∧ repeating.seat.isSettling = false ∧ repeating.seat ≠ .listen ∧
      repeating.flags.restartPending = false ∧ repeating.sq.repeatCount = 3 ∧ repeating.sq.order = none ∧
      repeating.sq.nextOrder = none ∧ repeating.flying .order = false) ∧
    (let s : State := { repeating with sq := { repeating.sq with nextOrder := some .fromRecord } }
     s.Ready ∧ s.sq.repeatCount = 3 ∧ s.sq.nextOrder.isSome = true) ∧
    (busy.order.InRange ∧ 1 ≤ busy.addr ∧ busy.addr ≤ 1000) := by
  unfold State.Ready OrderRec.InRange; decide

/-- A lane, a mute source and an entry, each silent for two ticks. -/
theorem witness_LapsesRemoveWhatFellSilent :
    let r : HeldLane :=
      { holder := 44, standing := .delegate, ticket := 0, age := 9, silence := 2, muting := false, warned := false }
    let s : State :=
      { idle with lanes := #v[.free, .free, .free, .free, .free, .free, .free, .held r]
                  mutes := [{ chair := 300, silence := 2 }]
                  window := [{ asker := 300, ticket := 4, standing := .delegate, silence := 2 }] }
    s.Ready ∧ s.seat ≠ .waiting ∧ s.lanes[laneOf 7] = .held r ∧ r.silence = 2 ∧ r.holder ≠ s.addr ∧
      (∃ m ∈ s.mutes, m.chair = (300 : AddrBits).toNat ∧ m.silence = 2) ∧
      (∃ e ∈ s.window, e.asker = (300 : AddrBits).toNat ∧ e.silence = 2) ∧
      (let w : State := { s with seat := .waiting, ownAsk := .live 4 }
       w.Ready ∧ w.seat = .waiting ∧ w.ownAsk = .live 4 ∧ w.flags.restartPending = false ∧ w.flying .floor = false) := by
  unfold State.Ready; decide

/-- The seat warned, in its grace. -/
def warned : State :=
  { live with seat := .warned lane2, st := { live.st with phase := .counting .grace, remaining := 1, correction := 30 } }

/-- No timer, a pause, a count of 2, a correction, and a correction in grace. -/
theorem witness_SpeechTickCountsOrCorrects :
    (let s : State := { live with st := { live.st with phase := .idle, remaining := 0, speechGrace := 0 } }
     s.Ready ∧ s.st.speaking = true ∧ s.st.phase = .idle) ∧
    (let s : State := { live with st := { live.st with phase := .paused .running } }
     s.Ready ∧ s.st.speaking = true ∧ s.st.phase = .paused .running ∧ s.st.correction = 0) ∧
    (let s : State := { live with st := { live.st with remaining := 2 } }
     s.Ready ∧ s.st.speaking = true ∧ s.st.phase = .counting .running ∧ s.st.correction = 0 ∧ 2 ≤ s.st.remaining) ∧
    (let s : State := { live with st := { live.st with correction := -59 } }
     s.Ready ∧ s.st.speaking = true ∧ s.st.correction ≠ 0 ∧ 0 < (s.st.remaining : Int) + s.st.correction) ∧
    (warned.Ready ∧ warned.st.speaking = true ∧ warned.st.phase = .counting .grace ∧ 0 < warned.st.correction ∧
      0 < (warned.st.remaining : Int) + warned.st.correction ∧ warned.seat = .warned lane2 ∧
      warned.flags.restartPending = false) := by
  unfold State.Ready; decide

/-- The warning, the end of the grace, and a correction to exactly 0 under a mute. -/
theorem witness_SpeechExpiryWarnsOrYields :
    (let s : State := { live with st := { live.st with remaining := 1 } }
     s.Ready ∧ s.st.speaking = true ∧ s.flags.restartPending = false ∧ s.st.phase = .counting .running ∧
       s.st.correction = 0 ∧ s.st.remaining ≤ 1 ∧ 0 < s.st.speechGrace ∧ s.seat = .live lane2) ∧
    (let s : State := { warned with st := { warned.st with correction := 0 } }
     s.Ready ∧ s.st.speaking = true ∧ s.st.phase = .counting .grace ∧ s.st.remaining ≤ 1 ∧ s.st.correction = 0 ∧
       s.seat.speaking? = some lane2 ∧ s.flying .floor = false) ∧
    (let s : State := { live with st := { live.st with phase := .paused .running, correction := -60 } }
     s.Ready ∧ s.st.phase = .paused .running ∧ s.st.correction ≠ 0 ∧ (s.st.remaining : Int) + s.st.correction ≤ 0) := by
  unfold State.Ready; decide

/-! ## Witnesses: voice and audio -/

theorem witness_EnvelopeMovesTowardTheSample : idle.Ready := by
  unfold State.Ready; decide

/-- In the cough, at the threshold, at the lower threshold, and one below it; the samples that complete an attack and a release, in
either detector state; and a trim at its first sample and at its last. -/
theorem witness_SampleMovesTheDetectorCounters :
    idle.Ready ∧ idle.VoiceLaw ∧ idle.flags.cough = false ∧
      (let at' (e : Nat) : State := { idle with vu := { idle.vu with envelope := e } }
       idle.vu.threshold ≤ (after (.levelSample 40) (at' 10240)).level ∧
         max 1 (idle.vu.threshold - 6) ≤ (after (.levelSample 34) (at' 8704)).level ∧
         (after (.levelSample 34) (at' 8704)).level < idle.vu.threshold ∧
         (after (.levelSample 33) (at' 8448)).level < max 1 (idle.vu.threshold - 6)) := by
  unfold State.Ready State.VoiceLaw
  refine ⟨by decide, ⟨by decide, by decide, by decide, by decide, by decide, ?_⟩, by decide, by decide⟩
  intro t h
  cases h

/-- A seat one sample before the ends of its counters. -/
def sampled (e attack release : Nat) (voiced : Bool) (trim : Option Trim) : State :=
  { idle with vu := { idle.vu with envelope := e, attack := attack, release := release, voiced := voiced, trim := trim } }

theorem witness_SampleMovesTheDetectorCounters_completions :
    (∀ tr ∈ [none, some { count := 0, sum := 0 }, some { count := 2047, sum := 9000 }], ∀ voiced ∈ [true, false],
      (let s := sampled 10240 39 0 voiced tr
       s.Ready ∧ s.VoiceLaw ∧ s.vu.attack = 39 ∧ s.vu.threshold ≤ (after (.levelSample 40) s).level) ∧
      (let s := sampled 8448 0 (idle.prof.releaseHold - 1) voiced tr
       s.Ready ∧ s.VoiceLaw ∧ s.vu.release + 1 = s.prof.releaseHold ∧
         (after (.levelSample 33) s).level < max 1 (s.vu.threshold - 6))) ∧
    (let s : State := { sampled 8448 0 (idle.prof.releaseHold - 1) true (some { count := 5, sum := 9 }) with
       seat := .live { lane2 with tookBy := .voice } }
     s.seat.speaking? = some { lane2 with tookBy := .voice }) := by
  refine ⟨?_, rfl⟩
  intro tr htr voiced _
  have law : ∀ x, tr = some x → x.count ≤ 2047 ∧ x.sum ≤ x.count * 255 := by
    intro x hx
    subst hx
    simp only [List.mem_cons, List.not_mem_nil, or_false, reduceCtorEq, Option.some.injEq, false_or] at htr
    rcases htr with rfl | rfl <;> decide
  refine ⟨⟨⟨rfl, rfl⟩, ⟨?_, ?_, ?_, ?_, ?_, law⟩, rfl, ?_⟩, ⟨rfl, rfl⟩, ⟨?_, ?_, ?_, ?_, ?_, law⟩, rfl, ?_⟩ <;>
    clear law <;> revert voiced <;> revert tr <;> decide

/-- In VOICE one sample before the attack's completion: a delegate, a PRIORITY seat with a FREE lane, with a delegate's lane to
displace and with neither, and a chair; one sample before the release's: a seat that took its lane by voice, and one that took it
by the key. -/
theorem witness_VoiceCompletionsTakeAndYieldTheLane :
    let s : State := { idle with order := { idle.order with mode := .voice }, vu := { idle.vu with attack := 39 } }
    let full (last : Role) : Vector Lane 8 :=
      #v[heldBy 21 .chair 0, heldBy 22 .chair 0, heldBy 23 .chair 0, heldBy 24 .chair 0, heldBy 25 .chair 0,
         heldBy 26 .chair 0, heldBy 27 .chair 0, heldBy 28 last 0]
    let speaking (k : TakeKind) : State :=
      { live with seat := .live { lane2 with tookBy := k },
                  vu := { idle.vu with release := idle.prof.releaseHold - 1, voiced := true } }
    (s.Ready ∧ s.flags.cough = false ∧ s.vu.attack = 39 ∧ s.vu.voiced = false ∧ s.flags.restartPending = false ∧
      s.role = .delegate ∧ s.order.mode = .voice ∧ s.vu.trim = none ∧ s.seat = .idle ∧
      s.delegateLanes < s.order.laneLimit ∧ s.freeLanes ≠ []) ∧
    (let p : State := { s with role := .priority }
     p.Ready ∧ p.role = .priority ∧ p.freeLanes ≠ [] ∧
       (let q : State := { p with lanes := full .delegate }
        q.Ready ∧ q.freeLanes = [] ∧ q.oldestLane [.delegate] = some 7) ∧
       (let q : State := { p with lanes := full .priority }
        q.Ready ∧ q.freeLanes = [] ∧ q.oldestLane [.delegate] = none)) ∧
    (({ s with role := .chair } : State).Ready ∧ ({ s with role := .chair } : State).role = .chair) ∧
    (∀ k : TakeKind, k ∈ [TakeKind.voice, .key] →
      (speaking k).Ready ∧ (speaking k).flags.cough = false ∧ (speaking k).vu.release + 1 = (speaking k).prof.releaseHold ∧
        (speaking k).seat.speaking? = some { lane2 with tookBy := k } ∧ (speaking k).flying .floor = false) := by
  unfold State.Ready; decide

theorem witness_TrimAndGateTimersComplete :
    (let s : State := { idle with vu := { idle.vu with trim := some { count := 2047, sum := 0 } } }
     s.Ready ∧ s.vu.trim = some { count := 2047, sum := 0 }) ∧
    (let s : State := { live with gc := { live.gc with gateDelay := .running 50, duckTail := .running 50 } }
     s.Ready ∧ s.gc.gateDelay = .running 50 ∧ s.gc.duckTail = .running 50) := by
  unfold State.Ready; decide

/-! ## Witnesses: keys and panel -/

theorem witness_OldestLaneIsTheLongestHeld :
    exampleView.oldestLane [.delegate] = some 1 ∧ idle.oldestLane [.delegate] = none := by decide

/-- Each standing and mode, with room and without. -/
theorem witness_TalkPressDecidesByStandingAndMode :
    (idle.role = .delegate ∧ idle.order.mode = .openFloor ∧ idle.window = [] ∧ idle.delegateLanes < idle.order.laneLimit ∧
      idle.freeLanes = [0, 1, 2, 3, 4, 5, 6, 7]) ∧
    (let s : State := { exampleView with order := { idle.order with laneLimit := 3 } }
     s.order.laneLimit ≤ s.delegateLanes ∧ ({ s with order := { s.order with mode := .override } } : State).order.mode = .override) ∧
    ({ idle with role := .priority } : State).role = .priority ∧ ({ idle with role := .chair } : State).role = .chair := by
  decide

/-- K1 of a delegate, down for its debounce time: IDLE, ASKING and TAKING with the frame pending and in flight, WAITING and
LIVE. -/
theorem witness_DebouncedTalkActsByTheSeatState :
    let down (s : State) : State := { s with key1 := { pin := true, pressed := false, timer := .running 20 } }
    let asking : State := { idle with seat := .asking, ownAsk := .pending }
    let meets (s : State) : Prop :=
      s.Ready ∧ s.role ≠ .listener ∧ s.flags.restartPending = false ∧ s.key1.pin = true ∧ s.key1.timer = .running 20 ∧
        s.coughKey = false ∧ s.flags.priorityHeld = false ∧ s.vu.trim = none ∧ s.isDelegateSeat = true
    (∀ s : State, s ∈ [idle, asking, takingSeat .line false, waiting, live] → meets (down s) ∧ (down s).sq.inFlight = none) ∧
    (asking.ownAsk = .pending ∧ waiting.ownAsk = .live 4 ∧ (takingSeat .line false).flags.cancelLatch = none) ∧
    (let s := down (flying .arbitrating .floor askFrame asking)
     meets s ∧ s.seat = .asking ∧ s.askFlying = true) ∧
    (let s := down (flying .arbitrating .floor { head := head 4, body := .take 2 false false } (takingSeat .line false))
     meets s ∧ s.seat = .taking (taking .line false .openFloor) ∧ s.takeFlying = true) := by
  simp only [State.Ready]; decide

/-- A chair with priority held set at the debounce of TALK: TAKING by either kind, pending and in flight with its latch set, and
LIVE by each key. -/
theorem witness_DebouncedTalkActsByTheSeatState_chair :
    let chair (s : State) : State :=
      { s with key1 := { pin := true, pressed := false, timer := .running 20 }, role := .chair, flags := { s.flags with priorityHeld := true } }
    let aloft (k : TakeKind) : State :=
      flying .arbitrating .floor { head := head 0, body := .take 2 false true } (takingSeat k false)
    let latched : State := { aloft .priority with flags := { idle.flags with cancelLatch := some .key } }
    (∀ s ∈ [takingSeat .priority false, latched, aloft .key, takingSeat .key false, live,
            { live with seat := .live { lane2 with tookBy := .priority } }],
      (chair s).Ready ∧ (chair s).role = .chair ∧ (chair s).flags.priorityHeld = true ∧
        (chair s).key1.timer = .running 20 ∧ (chair s).vu.trim = none ∧ (chair s).flags.restartPending = false) ∧
    (latched.flags.cancelLatch = some .key ∧ latched.takeFlying = true ∧ (aloft .key).takeFlying = true ∧
      (takingSeat .key false).sq.inFlight = none) := by
  simp only [State.Ready]; decide

theorem witness_PanelKeyGivesThePressWithCausePanel :
    (waiting.Ready ∧ waiting.flags.restartPending = false ∧ waiting.seat.isSettling = false ∧ waiting.seat ≠ .listen ∧
      waiting.vu.trim = none ∧ waiting.isDelegateSeat = true ∧ waiting.order.mode ≠ .voice ∧ waiting.seat = .waiting ∧
      waiting.ownAsk = .live 4 ∧ waiting.sq.inFlight = none) ∧
    (let s : State := { idle with order := { idle.order with mode := .voice } }
     s.Ready ∧ s.isDelegateSeat = true ∧ s.order.mode = .voice) ∧
    (repeating.Ready ∧ repeating.seat ≠ .listen ∧ repeating.role = .chair) ∧
    (let s : State := { idle with role := .listener, seat := .listen,
                                  key2 := { pin := true, pressed := false, timer := .running 20 } }
     s.Ready ∧ s.role = .listener ∧ (s.keyOf .k2).timer = .running 20) := by
  unfold State.Ready; decide

/-- A chair before the press and after it: IDLE with a lane to take and with none, TAKING by each kind pending and in flight, LIVE
by each key, and YIELDING. -/
theorem witness_PriorityKeyMutesTheFloor :
    let chair (held : Bool) (s : State) : State := { s with role := .chair, flags := { s.flags with priorityHeld := held } }
    let meets (s : State) : Prop := s.Ready ∧ s.role = .chair ∧ s.flags.restartPending = false ∧ s.vu.trim = none
    let aloft (k : TakeKind) : State :=
      flying .arbitrating .floor { head := head 0, body := .take 2 false true } (takingSeat k false)
    let full : State :=
      { idle with lanes := #v[heldBy 21 .chair 0, heldBy 22 .chair 0, heldBy 23 .chair 0, heldBy 24 .chair 0,
                              heldBy 25 .chair 0, heldBy 26 .chair 0, heldBy 27 .chair 0, heldBy 28 .chair 0] }
    (∀ s ∈ [idle, full, takingSeat .key false, aloft .key, takingSeat .priority false, aloft .priority, live,
            { live with seat := .live { lane2 with tookBy := .priority } }, { idle with seat := .yielding lane2 .key }],
      ∀ held ∈ [true, false], meets (chair held s) ∧ (chair held s).flags.priorityHeld = held) ∧
    (chairDecision (chair false idle) = .take 0 false ∧ chairDecision (chair false full) = .noLane) ∧
    ((takingSeat .key false).takeFlying = false ∧ (aloft .priority).takeFlying = true ∧
      (takingSeat .priority false).flying .floor = false ∧ idle.sq.inFlight = none ∧ live.sq.inFlight = none) ∧
    (let s : State :=
       { takingSeat .priority false with
         sq := { SendQ.reset with floorHeld := some .take, floor := some { content := .withdraw 4 .key, count := 0 },
                                  inFlight := some { slot := .floor, frame := { head := head 4, body := .withdraw 0 } } } }
     s.takeFlying = false ∧ s.flying .floor = true) := by
  simp only [State.Ready]; decide

theorem witness_KeyLevelsRunTheStabilityTimer :
    idle.Ready ∧ (idle.keyOf .k2).pin ≠ true ∧
      (({ idle with key3 := { pin := true, pressed := false, timer := .running 20 } } : State).keyOf .k3).timer ≠ .stopped ∧
      (idle.flags.clash = false ∧ idle.seat.isSettling = false ∧ idle.seat ≠ .listen ∧ idle.flash = .stopped) ∧
      ({ idle with flash := .running 2000 } : State).flash ≠ .stopped ∧
      (waiting.ownAsk = .live 4 ∧ waiting.seat = .waiting ∧
        (∀ e ∈ waiting.window, pairBefore e.ticket e.asker 4 waiting.addr = false) ∧
        ∃ e ∈ fullWindow.window, pairBefore e.ticket e.asker 4 fullWindow.addr = true) ∧
      (∀ s ∈ [live, { live with seat := .warned lane2 }], ∀ mutes ∈ [[], [{ chair := 300, silence := 0 }]],
        ∀ role ∈ [Role.delegate, .chair], let u : State := { s with mutes := mutes, role := role }
        u.Ready ∧ u.flags.clash = false ∧ (u.seat = .live lane2 ∨ u.seat = .warned lane2)) ∧
      (State.reset.Ready ∧ State.reset.seat.isSettling = true) ∧
      (({ idle with flags := { idle.flags with clash := true }, seat := .listen } : State).flags.clash = true) := by
  unfold State.Ready; decide

/-- A floor with a line of one, lane 7 held for 65535 ticks, an event and a feed record. -/
theorem witness_ReadsAnswerWithTheirRecords :
    busy.Ready ∧ busy.addr ≤ 1023 ∧ busy.WindowLaw ∧ busy.order.InRange ∧ busy.st.InRange ∧ busy.VoiceLaw ∧ busy.PanelLaw ∧
      busy.lanes[(7 : Fin 8)].InRange ∧ busy.lanes[(1 : Fin 8)].InRange ∧
      busy.window[0]? = some { asker := 9, ticket := 4, standing := .delegate, silence := 1 } ∧
      (let s : State := { busy with pp := { busy.pp with events := [{ event := .trimDone 255, stamp := 65535 }],
                                                         feed := [{ frame := askFrame, own := true }] } }
       s.Ready ∧ s.pp.events ≠ [] ∧ s.pp.feed.length ≤ 16) := by
  unfold State.Ready
  refine ⟨by decide, by decide, by unfold State.WindowLaw; decide, witness_EveryStepKeepsTheRecordRanges.1,
    witness_EveryStepKeepsTheRecordRanges.2.1, witness_EveryStepKeepsTheRecordRanges.2.2.2.1, busy_panelLaw, ?_, ?_,
    by decide, by decide⟩ <;> simp [busy, heldBy, Lane.InRange]

/-- In the wait of a restart, in LISTEN, and in SETTLING. -/
theorem witness_PanelRefusalsComeInOrder :
    (let s : State := { live with flags := { live.flags with restartPending := true } }
     s.Ready ∧ s.flags.restartPending = true) ∧
    (let s : State := { idle with seat := .listen }
     s.Ready ∧ s.flags.restartPending = false ∧ s.seat = .listen) ∧
    (State.reset.Ready ∧ State.reset.flags.restartPending = false ∧ State.reset.seat.isSettling = true) := by
  unfold State.Ready; decide

theorem witness_TrimStartsAndFeedSwitches : idle.Ready ∧ idle.flags.restartPending = false := by
  unfold State.Ready; decide

theorem witness_ChairCommandsPlaceTheirFrames :
    repeating.Ready ∧ repeating.flags.restartPending = false ∧ repeating.seat.isSettling = false ∧
      repeating.seat ≠ .listen := by
  unfold State.Ready; decide

/-- RESTART with nothing in flight, in LIVE, YIELDING, WAITING, TAKING from the line and by the key, ASKING, IDLE and SETTLING;
with the seat's ASK, TAKE and YIELD, and a HOLD, in flight; the end of the two restart frames; and a restart whose conditions
hold. -/
theorem witness_RestartLeavesTheFloorAndResets :
    let asking : State := { idle with seat := .asking, ownAsk := .pending }
    let yielding (r : YieldReason) : State := { hearing with seat := .yielding lane2 r }
    let may (s : State) : Prop := s.Ready ∧ s.flags.restartPending = false ∧ s.vu.trim = none
    (∀ s : State, s ∈ [live, yielding .key, waiting, takingSeat .line false, { takingSeat .key false with ownAsk := .none },
        asking, idle, State.reset] → may s ∧ s.sq.inFlight = none) ∧
    (live.seat = .live lane2 ∧ (yielding .key).seat = .yielding lane2 .key ∧ waiting.ownAsk = .live 4 ∧
      (takingSeat .line false).seat.isTaking = true ∧ (takingSeat .line false).ownAsk = .live 4 ∧
      State.reset.seat.isSettling = true ∧ live.st.speaking = true) ∧
    (let s := flying .sending .floor askFrame asking
     may s ∧ s.seat = .asking ∧ s.askFlying = true) ∧
    (let s := flying .sending .floor { head := head 4, body := .take 2 false false } (takingSeat .line false)
     may s ∧ s.seat.isTaking = true ∧ s.takeFlying = true) ∧
    (let s := flying .sending .floor { head := head 2, body := .yield 2 0 } (yielding .key)
     may s ∧ s.seat = .yielding lane2 .key) ∧
    (let s := flying .sending .hold { head := head 2, body := .hold 40 false false } live
     may s ∧ s.seat = .live lane2) ∧
    (∀ u : State, u ∈ [
        thriceObjected (.yield 2 .restart) (.yield 2 (BitVec.ofNat 3 (yieldCode .restart))) (yielding .restart),
        thriceObjected (.withdraw 4 .restart) (.withdraw (BitVec.ofNat 2 (causeCode .restart))) idle] →
      let s : State := { u with flags := { u.flags with restartPending := true } }
      s.Ready ∧ s.flags.restartPending = true ∧ s.sq.floorHeld = none ∧ s.flags.cancelLatch = none ∧
        s.li.bitFault = false ∧ s.flightCount .floor = 3) ∧
    (let u : State := { idle with flags := { idle.flags with restartPending := true } }
     u.Ready ∧ u.flags.restartPending = true ∧ u.sq.inFlight = none ∧ u.sq.floor = none ∧ u.sq.floorHeld = none) := by
  simp only [State.Ready]; decide

/-- A code that is none of the eleven; a record with one bit, and with two, still to be clocked out, for each kind of last byte,
and one that has been; and a transaction that begins. -/
theorem witness_TransactionsEndByTheirLastByte :
    let tr (l : LastByte) (n : Nat) : Transaction :=
      { command := 0x04, status := 0, response := List.replicate 5 0, lastByte := l, clocked := n }
    let s (l : LastByte) (n : Nat) : State :=
      { idle with pp := { idle.pp with psel := true, reading := true, transaction := some (tr l n) } }
    (Instr.unknownCommand 0).wellFormed = true ∧
    (∀ l : LastByte, l ∈ [LastByte.nothing, .clearOverflow, .removeEvent, .removeFeed] →
      (s l 47).Ready ∧ (s l 47).pp.transaction = some (tr l 47) ∧ (s l 47).pp.reading = true ∧ (s l 47).pp.shift = none) ∧
    ((tr .removeEvent 46).clocked + 1 < 8 * (1 + (tr .removeEvent 46).response.length) ∧
      (tr .removeEvent 47).clocked + 1 = 8 * (1 + (tr .removeEvent 47).response.length) ∧
      8 * (1 + (tr .removeEvent 48).response.length) ≤ (tr .removeEvent 48).clocked) ∧
    (idle.pending = [] ∧ idle.pp.psel = false ∧ ({ idle with pins := [.pselFall] } : State).pins = .pselFall :: []) ∧
    ((Instr.panelKey 1 1).wellFormed = true ∧ panelBytes (.panelKey 1 1) = some [0x10, 1, 1] ∧
      ({ idle with pp := { idle.pp with psel := true, shift := some [] } } : State).pp.shift = some []) := by
  simp only [State.Ready]; decide

/-- A queue that ends in OVERRUN, an equal LINE_CHANGED, and queues of 15 and 16 entries. -/
theorem witness_EventQueueMergesAppendsOrOverruns :
    let r (e : Event) : EventRec := { event := e, stamp := 0 }
    (∃ x ∈ [r .restarted, r .overrun], x.event = .overrun) ∧ (∃ x ∈ [r .lineChanged], x.event = .lineChanged) ∧
      (∀ x ∈ List.replicate 16 (r .restarted), x.event ≠ .overrun) ∧ (List.replicate 15 (r .restarted)).length < 16 ∧
      (List.replicate 16 (r .restarted)).length = 16 ∧ idle.resetLow = false := by decide

end Sys2Proof.Tests
end

section

/-! The choice of the oldest lane (R71): the fold over the lanes keeps the oldest candidate of the lanes it has seen. -/

namespace Sys2Proof.OldestLane

open Sys2Proof Sys2Proof.Machine

variable {s : State} {standings : List Role}

theorem mem_laneNumbers (i : Fin 8) : i ∈ laneNumbers := by
  fin_cases i <;> decide

theorem laneNumbers_ascending : laneNumbers.Pairwise (· < ·) := by decide

theorem oldestCandidate_eq_some_iff {i : Fin 8} {age : Nat} :
    s.oldestCandidate standings i = some age ↔
      ∃ r, s.lanes[i] = .held r ∧ r.standing ∈ standings ∧ r.holder ≠ s.addr ∧ r.age = age := by
  unfold State.oldestCandidate
  cases s.lanes[i] with
  | free => simp
  | held r => simp [and_assoc]

theorem oldestCandidate_eq_none_iff {i : Fin 8} :
    s.oldestCandidate standings i = none ↔
      ∀ r, s.lanes[i] = .held r → r.standing ∈ standings → r.holder = s.addr := by
  unfold State.oldestCandidate
  cases s.lanes[i] with
  | free => simp
  | held r => simp

/-- One step of the fold in `State.oldestLane`. -/
def keepOlder (s : State) (standings : List Role) (best : Option (Fin 8 × Nat)) (i : Fin 8) : Option (Fin 8 × Nat) :=
  match s.oldestCandidate standings i with
  | none => best
  | some age =>
    match best with
    | none => some (i, age)
    | some (j, age') => if age' < age then some (i, age) else some (j, age')

theorem oldestLane_eq_foldl_keepOlder (s : State) (standings : List Role) :
    s.oldestLane standings = (laneNumbers.foldl (keepOlder s standings) none).map Prod.fst := rfl

/-- R71 for the lanes seen so far: the best is one of them, a candidate, and comes before every other candidate. -/
def IsOldestOf (s : State) (standings : List Role) (seen : List (Fin 8)) : Option (Fin 8 × Nat) → Prop
  | none => ∀ j ∈ seen, s.oldestCandidate standings j = none
  | some (i, age) => i ∈ seen ∧ s.oldestCandidate standings i = some age ∧
      ∀ j ∈ seen, ∀ a, s.oldestCandidate standings j = some a → a < age ∨ (a = age ∧ i ≤ j)

/-- A new lane above all seen ones wins only by a greater age; at equal age the lower number stays. -/
theorem isOldestOf_keepOlder {seen : List (Fin 8)} {best : Option (Fin 8 × Nat)} {k : Fin 8}
    (hbest : IsOldestOf s standings seen best) (above : ∀ j ∈ seen, j < k) :
    IsOldestOf s standings (seen ++ [k]) (keepOlder s standings best k) := by
  unfold keepOlder
  cases hk : s.oldestCandidate standings k with
  | none =>
    cases best with
    | none => exact List.forall_mem_append.mpr ⟨hbest, by simpa using hk⟩
    | some b =>
      obtain ⟨hmem, hcand, hmax⟩ := hbest
      exact ⟨List.mem_append_left _ hmem, hcand, List.forall_mem_append.mpr ⟨hmax, by simp [hk]⟩⟩
  | some age =>
    cases best with
    | none => exact ⟨by simp, hk, List.forall_mem_append.mpr ⟨fun j hj a ha => by simp [hbest j hj] at ha, by simp [hk]⟩⟩
    | some b =>
      obtain ⟨i, age'⟩ := b
      obtain ⟨hmem, hcand, hmax⟩ := hbest
      by_cases hlt : age' < age
      · simp only [if_pos hlt]
        refine ⟨by simp, hk, List.forall_mem_append.mpr ⟨fun j hj a ha => .inl ?_, by simp [hk]⟩⟩
        have := hmax j hj a ha
        omega
      · simp only [if_neg hlt]
        have lower : i ≤ k := (above i hmem).le
        refine ⟨List.mem_append_left _ hmem, hcand, List.forall_mem_append.mpr ⟨hmax, ?_⟩⟩
        simpa [hk, lower] using (not_lt.mp hlt).lt_or_eq

/-- The fold over ascending lane numbers answers their oldest candidate. -/
theorem isOldestOf_foldl_keepOlder {lanes : List (Fin 8)} (ascending : lanes.Pairwise (· < ·)) :
    IsOldestOf s standings lanes (lanes.foldl (keepOlder s standings) none) := by
  induction lanes using List.reverseRecOn with
  | nil => simp [IsOldestOf]
  | append_singleton seen k ih =>
    obtain ⟨hseen, -, above⟩ := List.pairwise_append.mp ascending
    rw [List.foldl_concat]
    exact isOldestOf_keepOlder (ih hseen) fun j hj => above j hj k (List.mem_singleton_self k)

/-- What `State.oldestLane` answers: no candidate at all, or the candidate that comes before every other. -/
theorem oldestLane_cases (s : State) (standings : List Role) :
    (s.oldestLane standings = none ∧ ∀ j, s.oldestCandidate standings j = none) ∨
    ∃ i age, s.oldestLane standings = some i ∧ s.oldestCandidate standings i = some age ∧
      ∀ j a, s.oldestCandidate standings j = some a → a < age ∨ (a = age ∧ i ≤ j) := by
  have hbest := isOldestOf_foldl_keepOlder (s := s) (standings := standings) laneNumbers_ascending
  rw [oldestLane_eq_foldl_keepOlder]
  generalize laneNumbers.foldl (keepOlder s standings) none = best at hbest ⊢
  cases best with
  | none => exact .inl ⟨rfl, fun j => hbest j (mem_laneNumbers j)⟩
  | some b =>
    obtain ⟨-, hcand, hmax⟩ := hbest
    exact .inr ⟨b.1, b.2, rfl, hcand, fun j => hmax j (mem_laneNumbers j)⟩

/-- Settles O48 (R71), by the invariant of the fold over the lanes. -/
theorem oldestLaneIsTheLongestHeld : Obligations.OldestLaneIsTheLongestHeld := by
  intro standings s
  obtain ⟨hnone, hall⟩ | ⟨i, age, hsome, hcand, hmax⟩ := oldestLane_cases s standings
  · exact ⟨iff_of_true hnone fun j => oldestCandidate_eq_none_iff.mp (hall j), by simp [hnone]⟩
  · obtain ⟨r, hr, hstanding, hother, rfl⟩ := oldestCandidate_eq_some_iff.mp hcand
    refine ⟨iff_of_false (by simp [hsome]) fun h => hother (h i r hr hstanding), fun i' hi' => ?_⟩
    obtain rfl : i = i' := by simpa [hsome] using hi'
    exact ⟨r, hr, hstanding, hother, fun j q hq hqs hqo =>
      hmax j q.age (oldestCandidate_eq_some_iff.mpr ⟨q, hq, hqs, hqo, rfl⟩)⟩

end Sys2Proof.OldestLane
end

section

/-! The comparison of an arriving ORDER with the record (R98): its cases by origin, distance and source, and the Floor
Order's part of an arrival by its verdict. -/

namespace Sys2Proof.OrderComparison

open Sys2Proof Sys2Proof.Machine

/-- The distance of R98 as the residue the rule writes. -/
theorem orderDistance_eq_mod (sequence recorded : BitVec 8) :
    orderDistance sequence recorded = (sequence.toNat + 256 - recorded.toNat) % 256 := by
  unfold orderDistance
  bv_omega

theorem orderDistance_succ_self (recorded : BitVec 8) : orderDistance (recorded + 1) recorded = 1 := by
  unfold orderDistance
  bv_omega

/-- R98 as a choice of three: no order has come yet, the arriving one is ahead, or it is the same one from a lower address. -/
theorem adopts_iff {r : OrderRec} {sequence : BitVec 8} {source : Nat} :
    adopts r sequence source = true ↔
      r.origin = .profile ∨
      (1 ≤ orderDistance sequence r.sequence ∧ orderDistance sequence r.sequence ≤ 127) ∨
      (orderDistance sequence r.sequence = 0 ∧ source < r.source) := by
  simp [adopts, or_assoc]

/-- Against a record of the profile every order wins. -/
theorem adopts_of_profile {r : OrderRec} (h : r.origin = .profile) (sequence : BitVec 8) (source : Nat) :
    adopts r sequence source = true :=
  adopts_iff.mpr (.inl h)

/-- An order up to 127 ahead wins, whatever the record's origin and the sources. -/
theorem adopts_of_ahead {r : OrderRec} {sequence : BitVec 8} (source : Nat)
    (hpos : 1 ≤ orderDistance sequence r.sequence) (hle : orderDistance sequence r.sequence ≤ 127) :
    adopts r sequence source = true :=
  adopts_iff.mpr (.inr (.inl ⟨hpos, hle⟩))

/-- Against a record of the line an order 128 or more ahead counts as one behind. -/
theorem adopts_of_behind {r : OrderRec} {sequence : BitVec 8} (source : Nat) (hline : r.origin = .line)
    (hbehind : 128 ≤ orderDistance sequence r.sequence) : adopts r sequence source = false := by
  refine Bool.eq_false_iff.mpr fun hadopts => ?_
  obtain hprofile | ⟨-, hle⟩ | ⟨hzero, -⟩ := adopts_iff.mp hadopts
  · exact absurd (hline.symm.trans hprofile) (by decide)
  · omega
  · omega

/-- Against a record of the line and at the same sequence the lower source wins. -/
theorem adopts_of_same {r : OrderRec} {sequence : BitVec 8} (source : Nat) (hline : r.origin = .line)
    (hsame : orderDistance sequence r.sequence = 0) :
    adopts r sequence source = decide (source < r.source) := by
  rw [Bool.eq_iff_iff, adopts_iff]
  simp [hline, hsame]

/-- R98: the Floor Order ignores an ORDER that it does not adopt. -/
theorem orderArrivalFO_of_not_adopts {f : Frame} {s : State} {a : AddrBits} {q al : BitVec 8} {m : BitVec 2} {l : BitVec 4}
    {g c : BitVec 6} {clear : Bool} (clash : Bool) (hbody : f.body = .order a q m l al g c clear)
    (hignored : adopts s.order q a.toNat = false) : orderArrivalFO clash f s = s := by
  simp [orderArrivalFO, hbody, hignored]

/-- Settles O34 (R98), by the cases of the comparison. -/
theorem ordersAreComparedBySequenceAndSource : Obligations.OrdersAreComparedBySequenceAndSource := by
  intro r sequence source
  refine ⟨fun hprofile => adopts_of_profile hprofile sequence source, fun hline => ?_,
    adopts_of_ahead source (orderDistance_succ_self _).ge ((orderDistance_succ_self _).trans_le (by decide)),
    fun _ clash _ _ _ _ _ _ _ _ _ hbody hignored => orderArrivalFO_of_not_adopts clash hbody hignored⟩
  rw [← orderDistance_eq_mod]
  exact ⟨adopts_of_ahead source, adopts_of_behind source hline, adopts_of_same source hline⟩

end Sys2Proof.OrderComparison
end

section

/-! The envelope at a sample (R148): where `stepEnvelope` brings it, and that counters and trim leave it there. -/

namespace Sys2Proof.Envelope

open Sys2Proof Sys2Proof.Machine

/-! ## The step toward the target -/

variable {e x : Nat}

theorem stepEnvelope_of_lt (h : e < x * 256) : stepEnvelope e x = e + max 1 ((x * 256 - e) / 4) := by
  simp [stepEnvelope, h]

theorem stepEnvelope_of_gt (h : x * 256 < e) : stepEnvelope e x = e - max 1 ((e - x * 256) / 64) := by
  simp [stepEnvelope, h, h.le]

theorem stepEnvelope_target (x : Nat) : stepEnvelope (x * 256) x = x * 256 := by
  simp [stepEnvelope]

/-- A rise gains at least 1 and stops at the target at the latest. -/
theorem stepEnvelope_rises (h : e < x * 256) : e < stepEnvelope e x ∧ stepEnvelope e x ≤ x * 256 := by
  rw [stepEnvelope_of_lt h]
  omega

/-- A fall loses at least 1 and stops at the target at the latest. -/
theorem stepEnvelope_falls (h : x * 256 < e) : x * 256 ≤ stepEnvelope e x ∧ stepEnvelope e x < e := by
  rw [stepEnvelope_of_gt h]
  omega

theorem stepEnvelope_from_below (h : e ≤ x * 256) : e ≤ stepEnvelope e x ∧ stepEnvelope e x ≤ x * 256 := by
  obtain hlt | rfl := h.lt_or_eq
  · exact ⟨(stepEnvelope_rises hlt).1.le, (stepEnvelope_rises hlt).2⟩
  · rw [stepEnvelope_target]
    exact ⟨le_rfl, le_rfl⟩

theorem stepEnvelope_from_above (h : x * 256 ≤ e) : x * 256 ≤ stepEnvelope e x ∧ stepEnvelope e x ≤ e := by
  obtain hlt | rfl := h.lt_or_eq
  · exact ⟨(stepEnvelope_falls hlt).1, (stepEnvelope_falls hlt).2.le⟩
  · rw [stepEnvelope_target]
    exact ⟨le_rfl, le_rfl⟩

theorem stepEnvelope_le (he : e ≤ 65280) (hx : x ≤ 255) : stepEnvelope e x ≤ 65280 := by
  obtain h | h := le_total e (x * 256)
  · have := (stepEnvelope_from_below h).2
    omega
  · exact (stepEnvelope_from_above h).2.trans he

/-- Away from the target every step shortens the distance to it. -/
theorem dist_stepEnvelope_lt (h : e ≠ x * 256) : (stepEnvelope e x).dist (x * 256) < e.dist (x * 256) := by
  unfold Nat.dist
  obtain hlt | hgt := h.lt_or_gt
  · have := stepEnvelope_rises hlt
    omega
  · have := stepEnvelope_falls hgt
    omega

/-- Under a constant sample the envelope arrives at the target exactly. -/
theorem exists_iterate_stepEnvelope_eq (e x : Nat) : ∃ n, (fun v => stepEnvelope v x)^[n] e = x * 256 := by
  by_cases h : e = x * 256
  · exact ⟨0, h⟩
  · obtain ⟨n, hn⟩ := exists_iterate_stepEnvelope_eq (stepEnvelope e x) x
    exact ⟨n + 1, hn⟩
termination_by e.dist (x * 256)
decreasing_by exact dist_stepEnvelope_lt h

/-! ## The record of the Voice Unit at completions, counters and trim -/

theorem abortTrim_vu (r : TrimAbort) (s : State) : (abortTrim r s).vu = { s.vu with trim := none } := by
  unfold abortTrim
  split
  next h => rw [← h]
  next => rfl

theorem beginTake_vu (t : IntendedTake) (s : State) : (beginTake t s).vu = { s.vu with trim := none } := by
  simp [beginTake, enterTaking, abortTrim_vu]

/-- R114, R156: with no trim to abort, the take of a reported attack leaves the Voice Unit's record. -/
theorem voiceAttack_vu {s : State} (h : s.vu.trim = none) : (voiceAttack s).vu = s.vu := by
  unfold voiceAttack
  split
  · split
    · rw [beginTake_vu, ← h]
    · split <;> simp
    · rfl
  · rfl

/-- R152: an attack is reported only outside a trim, so its completion changes nothing of the record but the detector state. -/
theorem attackDone_vu (s : State) : (attackDone s).vu = { s.vu with voiced := true } := by
  unfold attackDone
  split
  next h => rw [← h]
  next =>
    dsimp only
    split
    next hreported =>
      simp only [State.attackReported, Bool.and_eq_true, Option.isNone_iff_eq_none] at hreported
      exact voiceAttack_vu hreported.2
    next => rfl

theorem countAttack_vu (s : State) :
    (countAttack s).vu = { s.vu with
      attack := min 40 (s.vu.attack + 1), release := 0, voiced := s.vu.voiced || decide (s.vu.attack + 1 = 40) } := by
  unfold countAttack
  split
  next h => simp [attackDone_vu, h]
  next h => simp [h]

theorem countRelease_vu (s : State) :
    (countRelease s).vu = { s.vu with
      attack := 0, release := min s.prof.releaseHold (s.vu.release + 1),
      voiced := s.vu.voiced && !decide (s.vu.release + 1 = s.prof.releaseHold) } := by
  unfold countRelease
  split
  next h => simp [releaseDone, h]
  next h => simp [h]

/-- R149, R151: the counters at a sample move neither the envelope nor the threshold. -/
theorem moveCounters_keeps (s : State) :
    (moveCounters s).vu.envelope = s.vu.envelope ∧ (moveCounters s).vu.threshold = s.vu.threshold := by
  unfold moveCounters
  split
  · exact ⟨rfl, rfl⟩
  · split
    · simp [countAttack_vu]
    · split
      · exact ⟨rfl, rfl⟩
      · simp [countRelease_vu]

theorem moveTrim_envelope (s : State) : (moveTrim s).vu.envelope = s.vu.envelope := by
  unfold moveTrim
  split
  · rfl
  · dsimp only
    split <;> rfl

/-- R96: every profile's trim margin is positive. -/
theorem prof_trimMargin_pos (s : State) : 1 ≤ s.prof.trimMargin := by
  unfold State.prof profileOf
  split_ifs <;> decide

/-- R155: a completed trim sets a threshold between 1, by the margin, and 255; any other sample leaves it. -/
theorem moveTrim_threshold_range {s : State} (hlo : 1 ≤ s.vu.threshold) (hhi : s.vu.threshold ≤ 255) :
    1 ≤ (moveTrim s).vu.threshold ∧ (moveTrim s).vu.threshold ≤ 255 := by
  have margin := prof_trimMargin_pos s
  unfold moveTrim
  split
  · exact ⟨hlo, hhi⟩
  · dsimp only
    split
    · simp only [post_vu]
      omega
    · exact ⟨hlo, hhi⟩

/-! ## LEVEL_SAMPLE -/

theorem levelSample_envelope (x : BitVec 8) (s : State) :
    (levelSample x s).vu.envelope = stepEnvelope s.vu.envelope x.toNat := by
  simp [levelSample, moveTrim_envelope, moveCounters_keeps]

theorem levelSample_threshold_range {s : State} (x : BitVec 8) (hlo : 1 ≤ s.vu.threshold) (hhi : s.vu.threshold ≤ 255) :
    1 ≤ (levelSample x s).vu.threshold ∧ (levelSample x s).vu.threshold ≤ 255 := by
  refine moveTrim_threshold_range ?_ ?_ <;> simpa [moveCounters_keeps]

theorem exec_levelSample {s : State} (x : BitVec 8) (hs : s.Ready) :
    exec (.levelSample x) s = .next (flush (levelSample x s)) := by
  have hexec : exec (.levelSample x) s = event (levelSample x) s := rfl
  simp [hexec, event, hs.1]

/-- Settles O44 (R148), by the cases of the step and, for the steady level, by descent on the distance to the target. -/
theorem envelopeMovesTowardTheSample : Obligations.EnvelopeMovesTowardTheSample := by
  intro x s hs
  refine ⟨_, exec_levelSample x hs, ?_⟩
  have hx : x.toNat ≤ 255 := Nat.le_of_lt_succ x.isLt
  simp only [State.level, flush_keeps, levelSample_envelope]
  refine ⟨rfl, stepEnvelope_from_below, stepEnvelope_from_above, fun hlt hnear => ?_, fun hgt hnear => ?_, fun he => ?_,
    levelSample_threshold_range x, fun hsteady => ?_, exists_iterate_stepEnvelope_eq _ _⟩
  · rw [stepEnvelope_of_lt hlt]
    omega
  · rw [stepEnvelope_of_gt hgt]
    omega
  · have hle := stepEnvelope_le he hx
    exact ⟨hle, by omega⟩
  · rw [hsteady]
    exact Nat.mul_div_cancel _ (by decide)

end Sys2Proof.Envelope
end

section

/-! What every operation of the model keeps: the laws of the station, block by block, and the model's own queue. One relation
says it; each operation has one lemma, in the order of the model's files, and a step is a chain of them. -/

namespace Sys2Proof.Kept

open Sys2Proof Sys2Proof.Machine

-- One proof at a time: the text is compiled in bounded memory.
set_option Elab.async false

/-- `State.PanelLaw` within a step, where postings may wait. -/
def PanelPart (s : State) : Prop :=
  s.pp.events.length ≤ 16 ∧ (∀ r ∈ s.pp.events.dropLast, r.event ≠ .overrun) ∧ s.pp.feed.length ≤ 16 ∧
    (s.resetLow = false → s.pp.TransactionLaw)

theorem panelLaw_iff {s : State} : s.PanelLaw ↔ PanelPart s ∧ s.outbox = [] := by
  simp only [State.PanelLaw, PanelPart, and_assoc]

/-- From s to t no law of the station is lost, and the commands and pin events that wait are the same. Where
an operation changes one block, the proof takes the other fields from `LawKept.refl`: their laws read nothing that differs. -/
structure LawKept (s t : State) : Prop where
  pending : t.pending = s.pending
  pins : t.pins = s.pins
  view : s.ViewLaw ∧ s.ViewRanges → t.ViewLaw ∧ t.ViewRanges
  window : s.WindowLaw → t.WindowLaw
  order : s.order.InRange → t.order.InRange
  timer : s.order.InRange → s.st.InRange → t.st.InRange
  chair : s.ChairLaw → t.ChairLaw
  voice : s.VoiceLaw → t.VoiceLaw
  settling : s.SettlingLaw → t.SettlingLaw
  queue : s.sq.InRange → t.sq.InRange
  line : s.li.InRange → t.li.InRange
  panel : PanelPart s → PanelPart t

theorem LawKept.refl (s : State) : LawKept s s := ⟨rfl, rfl, id, id, id, fun _ => id, id, id, id, id, id, id⟩

theorem LawKept.trans {s t u : State} (h : LawKept s t) (k : LawKept t u) : LawKept s u where
  pending := k.pending.trans h.pending
  pins := k.pins.trans h.pins
  view := k.view ∘ h.view
  window := k.window ∘ h.window
  order := k.order ∘ h.order
  timer ho ht := k.timer (h.order ho) (h.timer ho ht)
  chair := k.chair ∘ h.chair
  voice := k.voice ∘ h.voice
  settling := k.settling ∘ h.settling
  queue := k.queue ∘ h.queue
  line := k.line ∘ h.line
  panel := k.panel ∘ h.panel

variable {s : State}

/-! ## Single fields -/

/-- A seat state other than SETTLING is under no law. -/
theorem seat_kept (x : Seat) (hx : x.isSettling = false := by rfl) : LawKept s { s with seat := x } where
  __ := LawKept.refl s
  settling _ n hn := by
    obtain rfl : x = .settling n := hn
    exact absurd hx (by simp [Seat.isSettling])

theorem sq_kept {q : SendQ} (h : s.sq.InRange → q.InRange) : LawKept s { s with sq := q } where
  __ := LawKept.refl s
  queue := h

theorem li_kept {l : LineIf} (h : s.li.InRange → l.InRange) : LawKept s { s with li := l } where
  __ := LawKept.refl s
  line := h

theorem pp_kept {p : PanelPort} (h : PanelPart s → PanelPart { s with pp := p }) : LawKept s { s with pp := p } where
  __ := LawKept.refl s
  panel := h

theorem vu_kept {v : VoiceUnit} (h : s.VoiceLaw → State.VoiceLaw { s with vu := v }) : LawKept s { s with vu := v } where
  __ := LawKept.refl s
  voice := h

theorem st_kept {x : SpeechTimer} (hx : s.order.InRange → s.st.InRange → x.InRange)
    (hc : s.ChairLaw → State.ChairLaw { s with st := x }) : LawKept s { s with st := x } where
  __ := LawKept.refl s
  timer := hx
  chair := hc

theorem flags_kept (x : SeatFlags) : LawKept s { s with flags := x } := { LawKept.refl s with }

/-! ## The event queue (R185) -/

theorem mem_dropLast_concat {α : Type} {l : List α} {a x : α} (h : x ∈ (l ++ [a]).dropLast) : x ∈ l := by
  simpa using h

/-- R185: what one posting does to the queue: nothing, a new last entry, or OVERRUN in place of the last. -/
theorem enqueueEvent_cases (stamp : Nat) (reading : Bool) (q : List EventRec) (e : Event) :
    enqueueEvent stamp reading q e = q ∨
    (∀ r ∈ q, r.event ≠ .overrun) ∧
      (enqueueEvent stamp reading q e = q ++ [{ event := e, stamp := stamp }] ∨
        enqueueEvent stamp reading q e = q.dropLast ++ [{ event := .overrun, stamp := stamp }]) := by
  unfold enqueueEvent
  generalize (if reading then q.tail else q) = unread
  split
  · exact .inl rfl
  next hnone =>
    have hq : ∀ r ∈ q, r.event ≠ .overrun := by simpa using hnone
    split
    · exact .inl rfl
    · split
      · exact .inr ⟨hq, .inl rfl⟩
      · exact .inr ⟨hq, .inr rfl⟩

/-- R185: OVERRUN only as the last entry. -/
theorem enqueueEvent_overrun_last (stamp : Nat) (reading : Bool) {q : List EventRec} (e : Event)
    (h : ∀ r ∈ q.dropLast, r.event ≠ .overrun) :
    ∀ r ∈ (enqueueEvent stamp reading q e).dropLast, r.event ≠ .overrun := by
  obtain heq | ⟨hq, heq | heq⟩ := enqueueEvent_cases stamp reading q e <;> rw [heq]
  · exact h
  · exact fun r hr => hq r (mem_dropLast_concat hr)
  · exact fun r hr => h r (mem_dropLast_concat hr)

theorem enqueueEvent_ne_nil (stamp : Nat) (reading : Bool) {q : List EventRec} (e : Event) (h : q ≠ []) :
    enqueueEvent stamp reading q e ≠ [] := by
  obtain heq | ⟨-, heq | heq⟩ := enqueueEvent_cases stamp reading q e <;> simp [heq, h]

theorem foldl_enqueueEvent_laws (stamp : Nat) (reading : Bool) (es : List Event) (q : List EventRec)
    (hlen : q.length ≤ 16) (hover : ∀ r ∈ q.dropLast, r.event ≠ .overrun) :
    (es.foldl (enqueueEvent stamp reading) q).length ≤ 16 ∧
      (∀ r ∈ (es.foldl (enqueueEvent stamp reading) q).dropLast, r.event ≠ .overrun) ∧
      (q ≠ [] → es.foldl (enqueueEvent stamp reading) q ≠ []) := by
  induction es generalizing q with
  | nil => exact ⟨hlen, hover, id⟩
  | cons e es ih =>
    obtain ⟨hl, ho, hn⟩ :=
      ih _ (enqueueEvent_length stamp reading q e hlen) (enqueueEvent_overrun_last stamp reading e hover)
    exact ⟨hl, ho, hn ∘ enqueueEvent_ne_nil stamp reading e⟩

/-- What the end of an instant leaves of the panel port beside the event queue. -/
theorem flush_pp (s : State) : (flush s).pp = { s.pp with events := (flush s).pp.events } := by
  unfold flush
  split <;> rfl

theorem flush_kept (s : State) : LawKept s (flush s) := by
  obtain ⟨es, -, hes⟩ := flush_takes s
  have hpanel : PanelPart s → PanelPart (flush s) := by
    rintro ⟨hlen, hover, hfeed, htrans⟩
    obtain ⟨hl, ho, hn⟩ := foldl_enqueueEvent_laws s.viewTicks s.pp.reading es s.pp.events hlen hover
    rw [← hes] at hl ho hn
    refine ⟨hl, ho, ?_, fun hhigh => ?_⟩
    · rw [flush_pp]
      exact hfeed
    · obtain ⟨hpsel, hshift, hclocked, hreading⟩ := htrans (by simpa using hhigh)
      rw [flush_pp]
      exact ⟨hpsel, hshift, hclocked, fun h => ⟨hn (hreading h).1, (hreading h).2⟩⟩
  unfold flush at hpanel ⊢
  split at hpanel
  · exact .refl s
  · exact { LawKept.refl s with panel := hpanel }

/-! ## The shared operations -/

theorem post_kept (b : Block) (e : Event) (s : State) : LawKept s (post b e s) := { LawKept.refl s with }

theorem offerFeed_kept (own : Bool) (f : Frame) (s : State) : LawKept s (offerFeed own f s) := by
  unfold offerFeed
  split
  · exact .refl s
  · split
    next hroom =>
      exact pp_kept fun ⟨hlen, hover, _, htrans⟩ => ⟨hlen, hover, by simpa using hroom, htrans⟩
    next => exact pp_kept id

theorem signalRefusal_kept (s : State) : LawKept s (signalRefusal s) := { LawKept.refl s with }

theorem refuse_kept (r : Refused) (s : State) : LawKept s (refuse r s) := { LawKept.refl s with }

theorem abortTrim_kept (r : TrimAbort) (s : State) : LawKept s (abortTrim r s) := by
  unfold abortTrim
  split
  · exact .refl s
  · exact (vu_kept fun ⟨he, ht, ha, hr, har, _⟩ => ⟨he, ht, ha, hr, har, by simp⟩).trans (post_kept _ _ _)

theorem startTail_kept (s : State) : LawKept s (startTail s) := by
  unfold startTail
  split
  · exact { LawKept.refl s with }
  · exact .refl s

theorem enterIdle_kept (s : State) : LawKept s (enterIdle s) := by
  have h : LawKept s { s with seat := .idle } := seat_kept .idle
  simp only [enterIdle]
  split
  · exact h.trans (startTail_kept _)
  · exact h

theorem enterListen_kept (s : State) : LawKept s (enterListen s) := by
  have h : LawKept s { s with seat := .listen } := seat_kept .listen
  simp only [enterListen]
  split
  · exact h.trans (startTail_kept _)
  · exact h

theorem enterTaking_kept (t : IntendedTake) (s : State) : LawKept s (enterTaking t s) :=
  (seat_kept (.taking t)).trans (abortTrim_kept _ _)

/-- R136, R163: a speech start is within the timer's ranges, and at a chair untimed. -/
theorem speechStart_kept (s : State) : LawKept s (speechStart s) := by
  refine st_kept ?_ fun _ hrole => ?_
  · rintro ⟨-, hallow, hgrace, -⟩ ⟨-, -, -, -, hw, hlw, hls, -⟩
    refine ⟨?_, by simp, ?_, by simp, hw, hlw, hls, ?_⟩
    · dsimp only
      split <;> omega
    · dsimp only
      split <;> omega
    · dsimp only
      split
      · split <;> simp
      · simp
  · have hseat : s.isDelegateSeat = false := by
      simp only [State.isDelegateSeat, decide_eq_false_iff_not]
      rintro (h | h) <;> exact absurd (h.symm.trans hrole) (by decide)
    simp [hseat]

theorem speechEnd_kept (s : State) : LawKept s (speechEnd s) := by
  unfold speechEnd
  split
  · exact { LawKept.refl s with
      timer := fun _ ⟨_, _, _, he, hw, hlw, _, _⟩ => ⟨by simp, by simp, by simp, by simp, hw, hlw, he, by simp⟩
      chair := fun _ _ => rfl }
  · exact { LawKept.refl s with }

theorem timerMute_kept (active : Bool) (s : State) : LawKept s (timerMute active s) := by
  unfold timerMute
  split
  next c hphase =>
    exact st_kept (fun _ ⟨hr, hc, hg, he, hw, hlw, hls, _⟩ => ⟨hr, hc, hg, he, hw, hlw, hls, by simp⟩)
      fun hchair hrole => absurd (hphase.symm.trans (hchair hrole)) (by simp)
  next c hphase =>
    exact st_kept (fun _ ⟨hr, hc, hg, he, hw, hlw, hls, _⟩ => ⟨hr, hc, hg, he, hw, hlw, hls, by simp⟩)
      fun hchair hrole => absurd (hphase.symm.trans (hchair hrole)) (by simp)
  next => exact .refl s

theorem gateSpeech_kept (lane : Fin 8) (s : State) : LawKept s (gateSpeech lane s) := { LawKept.refl s with }

theorem endOwnAsk_kept (r : AskEnd) (s : State) : LawKept s (endOwnAsk r s) := by
  simp only [endOwnAsk]
  split
  · exact .refl s
  · refine { LawKept.refl s with timer := fun _ ⟨hr, hc, hg, he, hw, hlw, hls, hi⟩ => ⟨hr, hc, hg, he, by simp, ?_, hls, hi⟩ }
    simp only [post_st]
    split
    · exact hw
    · exact hlw

theorem refuseOwnAsk_kept (s : State) : LawKept s (refuseOwnAsk s) where
  __ := LawKept.refl s
  timer := fun _ ⟨hr, hc, hg, he, _, hlw, hls, hi⟩ => ⟨hr, hc, hg, he, by simp [refuseOwnAsk], hlw, hls, hi⟩

/-! ## Placing frames: a new frame has count 0 -/

theorem placeFloor_kept (c : FloorFrame) (s : State) : LawKept s (placeFloor c s) := by
  unfold placeFloor
  split
  · exact sq_kept id
  · exact sq_kept fun ⟨hl, hd, ho, _, ha, hh, hr⟩ => ⟨hl, hd, ho, by simp, ha, hh, hr⟩

theorem removeFloor_kept (s : State) : LawKept s (removeFloor s) := by
  unfold removeFloor
  split
  · exact sq_kept id
  · exact sq_kept fun ⟨hl, hd, ho, _, ha, hh, hr⟩ => ⟨hl, hd, ho, by simp, ha, hh, hr⟩

theorem getD_le_three {o : Option Nat} (h : ∀ n, o = some n → n ≤ 3) : o.getD 0 ≤ 3 := by
  cases o with
  | none => simp
  | some n => exact h n rfl

theorem placeHold_kept (s : State) : LawKept s (placeHold s) := by
  unfold placeHold
  split
  · exact .refl s
  · split
    · exact sq_kept id
    · exact sq_kept fun ⟨hl, hd, ho, hf, ha, hh, hr⟩ =>
        ⟨hl, hd, ho, hf, ha, fun n hn => Option.some.inj hn ▸ getD_le_three hh, hr⟩

theorem placeRefresh_kept (s : State) : LawKept s (placeRefresh s) := by
  unfold placeRefresh
  split
  · split
    · exact .refl s
    · split
      · exact sq_kept id
      · exact sq_kept fun ⟨hl, hd, ho, hf, ha, hh, hr⟩ =>
          ⟨hl, hd, ho, hf, fun n hn => Option.some.inj hn ▸ getD_le_three ha, hh, hr⟩
  · exact .refl s

theorem placeOrder_kept (n : NewOrder) (s : State) : LawKept s (placeOrder n s) := by
  unfold placeOrder
  split
  · exact sq_kept id
  · exact sq_kept fun ⟨hl, hd, _, hf, ha, hh, hr⟩ => ⟨hl, hd, by simp, hf, ha, hh, hr⟩

theorem placeRepeat_kept (s : State) : LawKept s (placeRepeat s) := by
  unfold placeRepeat
  split
  · exact .refl s
  · split
    · exact placeOrder_kept _ s
    · exact sq_kept fun ⟨hl, hd, _, hf, ha, hh, hr⟩ => ⟨hl, hd, by simp, hf, ha, hh, hr⟩

theorem pushDirect_kept (d : DirectFrame) (h : s.fifoFull = false) : LawKept s (pushDirect d s) :=
  sq_kept fun ⟨_, hd, ho, hf, ha, hh, hr⟩ => by
    refine ⟨?_, ?_, ho, hf, ha, hh, hr⟩
    · simp only [State.fifoFull, decide_eq_false_iff_not] at h
      simp only [List.length_append, List.length_singleton]
      omega
    · simpa [or_imp, forall_and] using hd

theorem yieldLane_kept (r : YieldReason) (s : State) : LawKept s (yieldLane r s) := by
  unfold yieldLane
  split
  · exact .refl s
  next h _ => exact ((speechEnd_kept s).trans (placeFloor_kept _ _)).trans (seat_kept (.yielding h r))

theorem beginTake_kept (t : IntendedTake) (s : State) : LawKept s (beginTake t s) :=
  (enterTaking_kept t s).trans (placeFloor_kept _ _)

theorem leaveTake_kept (t : IntendedTake) (s : State) : LawKept s (leaveTake t s) := by
  unfold leaveTake
  split
  · exact (removeFloor_kept s).trans (seat_kept .waiting)
  · exact (removeFloor_kept s).trans (seat_kept .waiting)
  · exact (removeFloor_kept s).trans (enterIdle_kept _)

end Sys2Proof.Kept
end

section

/-! The laws at an arrival and at a view tick: what screening leaves of a frame (R24 to R34), the lane records and the mute
source list (R52, R67), and the line window (R75, R76). -/

namespace Sys2Proof.Kept

open Sys2Proof Sys2Proof.Machine

-- One proof at a time: the text is compiled in bounded memory.
set_option Elab.async false

/-! ## Screened frames -/

/-- R24: the acting frame, said without the verdict. -/
theorem actingFrame_eq (f : Frame) :
    actingFrame f =
      if headPasses f && bodyPasses f then some { f with body := clampBody f.head.standing f.body } else none := by
  unfold actingFrame screen
  by_cases hpass : (headPasses f && bodyPasses f) = true
  · by_cases hsame : clampBody f.head.standing f.body = f.body
    · simp [hpass, hsame]
    · simp [hpass, hsame]
  · simp [hpass]

theorem actingFrame_eq_some_iff {f g : Frame} :
    actingFrame f = some g ↔
      headPasses f = true ∧ bodyPasses f = true ∧ g = { f with body := clampBody f.head.standing f.body } := by
  rw [actingFrame_eq]
  split
  next h =>
    obtain ⟨hhead, hbody⟩ := Bool.and_eq_true_iff.mp h
    simp [hhead, hbody, eq_comm]
  next h =>
    have hnot : headPasses f = true → ¬ bodyPasses f = true := by simpa using h
    simp only [reduceCtorEq, false_iff, not_and]
    exact fun hhead hbody => absurd hbody (hnot hhead)

/-- R25: what every acting frame's head passes. -/
theorem headPasses_sender {f : Frame} (h : headPasses f = true) :
    1 ≤ f.head.sender.toNat ∧ f.head.sender.toNat ≤ 1000 ∧ f.head.standing ≠ .listener := by
  simp only [headPasses, validAddress, Bool.and_eq_true, decide_eq_true_eq] at h
  exact ⟨h.1.1.1, h.1.1.2, h.1.2⟩

/-- R26, R27, R33: the ranges that the floor blocks find in the body of a frame they act on. -/
def BodyInRange (key : KeyBits) : Body → Prop
  | .order source _ _ l a g c _ =>
    OrderRec.InRange { mode := .openFloor, laneLimit := l.toNat, allowance := a.toNat, grace := g.toNat,
                       capacity := c.toNat, sequence := 0, source := source.toNat, origin := .line }
  | .ask _ => 1 ≤ key.toNat
  | _ => True

theorem clampLaneLimit_toNat (l : BitVec 4) : (clampLaneLimit l).toNat = max 1 (min 8 l.toNat) := by
  revert l
  decide

theorem clampCapacity_toNat (c : BitVec 6) : (clampCapacity c).toNat = max 1 (min 32 c.toNat) := by
  revert c
  decide

theorem clampGrace_toNat (g : BitVec 6) : (clampGrace g).toNat = min 60 g.toNat := by
  revert g
  decide

theorem bodyInRange_clampBody {f : Frame} (h : bodyPasses f = true) :
    BodyInRange f.head.key (clampBody f.head.standing f.body) := by
  unfold bodyPasses at h
  unfold clampBody
  cases hbody : f.body with
  | order source sequence mode l a g c clear =>
    simp only [hbody, validAddress, Bool.and_eq_true, decide_eq_true_eq] at h
    have ha := a.isLt
    simp only [BodyInRange, OrderRec.InRange, clampLaneLimit_toNat, clampCapacity_toNat, clampGrace_toNat]
    refine ⟨by omega, by omega, by omega, by omega, h.2.2, ?_⟩
    simp only [reduceCtorEq, iff_false]
    omega
  | ask refresh =>
    simp only [hbody, decide_eq_true_eq] at h
    exact Nat.one_le_iff_ne_zero.mpr fun hzero => h (BitVec.eq_of_toNat_eq hzero)
  | direct target action argument =>
    dsimp only
    split <;> trivial
  | yield lane reason =>
    dsimp only
    split <;> trivial
  | withdraw reason =>
    dsimp only
    split <;> trivial
  | take lane displace muting => trivial
  | hold elapsed muting warned => trivial

/-- What the floor blocks may assume of a frame they act on (R24, R25). -/
structure Sound (g : Frame) : Prop where
  lower : 1 ≤ g.head.sender.toNat
  upper : g.head.sender.toNat ≤ 1000
  standing : g.head.standing ≠ .listener
  body : BodyInRange g.head.key g.body

theorem sound_of_acting {f g : Frame} (h : actingFrame f = some g) : Sound g := by
  obtain ⟨hhead, hbody, rfl⟩ := actingFrame_eq_some_iff.mp h
  obtain ⟨hlo, hhi, hst⟩ := headPasses_sender hhead
  exact ⟨hlo, hhi, hst, bodyInRange_clampBody hbody⟩

/-! ## The lane records -/

/-- R51, R52: the laws of the eight lane records. -/
def LanesLaw (v : Vector Lane 8) : Prop :=
  (∀ i j : Fin 8, ∀ a : Nat, v[i].holder? = some a → v[j].holder? = some a → i = j) ∧ ∀ i : Fin 8, v[i].InRange

/-- R67: the law of the mute source list. -/
def MutesLaw (l : List MuteSource) : Prop :=
  l.length ≤ 4 ∧ (l.map MuteSource.chair).Nodup ∧ ∀ m ∈ l, m.silence ≤ 2

variable {s : State} {v : Vector Lane 8}

theorem setLanes_kept {w : Vector Lane 8} (h : LanesLaw s.lanes → LanesLaw w) : LawKept s (setLanes w s) where
  __ := LawKept.refl s
  view := fun ⟨hview, hlanes, hticks, hmutes⟩ =>
    ⟨(h ⟨hview, hlanes⟩).1, (h ⟨hview, hlanes⟩).2, hticks, hmutes⟩

theorem setMutes_kept {l : List MuteSource} (h : MutesLaw s.mutes → MutesLaw l) : LawKept s (setMutes l s) := by
  have hset : LawKept s { s with mutes := l } :=
    { LawKept.refl s with view := fun ⟨hview, hlanes, hticks, hmutes⟩ => ⟨hview, hlanes, hticks, h hmutes⟩ }
  simp only [setMutes]
  split
  · exact hset
  · exact (hset.trans (post_kept _ _ _)).trans (timerMute_kept _ _)

/-- Lane records of which each stays in range and is held by whom it was held, if at all. -/
theorem mapLanes_law {f : Fin 8 → Lane → Lane}
    (hf : ∀ i, v[i].InRange → (f i v[i]).InRange ∧ ∀ a, (f i v[i]).holder? = some a → v[i].holder? = some a)
    (h : LanesLaw v) : LanesLaw (mapLanes f v) := by
  obtain ⟨honce, hrange⟩ := h
  refine ⟨fun i j a hi hj => ?_, fun i => ?_⟩
  · rw [mapLanes_get] at hi hj
    exact honce i j a ((hf i (hrange i)).2 a hi) ((hf j (hrange j)).2 a hj)
  · rw [mapLanes_get]
    exact (hf i (hrange i)).1

theorem without_law (a : Nat) (l : Lane) :
    (l.InRange → (l.without a).InRange) ∧ ∀ b, (l.without a).holder? = some b → l.holder? = some b ∧ b ≠ a := by
  unfold Lane.without
  split
  next => exact ⟨fun _ => trivial, by simp [Lane.holder?]⟩
  next h => exact ⟨id, fun b hb => ⟨hb, fun e => h (e ▸ hb)⟩⟩

theorem claimLane_get (n : Fin 8) (r : HeldLane) (v : Vector Lane 8) (i : Fin 8) :
    (claimLane n r v)[i] = if i = n then .held r else v[i].without r.holder := mapLanes_get _ v i

/-- R52: a claim leaves its holder no other lane. -/
theorem claimLane_law {n : Fin 8} {r : HeldLane} (hr : Lane.InRange (.held r)) (h : LanesLaw v) :
    LanesLaw (claimLane n r v) := by
  obtain ⟨honce, hrange⟩ := h
  refine ⟨fun i j a hi hj => ?_, fun i => ?_⟩
  · rw [claimLane_get] at hi hj
    split at hi <;> split at hj
    next hin hjn => exact hin.trans hjn.symm
    next => exact absurd (Option.some.inj hi).symm (((without_law _ _).2 _ hj).2)
    next => exact absurd (Option.some.inj hj).symm (((without_law _ _).2 _ hi).2)
    next => exact honce i j a ((without_law _ _).2 _ hi).1 ((without_law _ _).2 _ hj).1
  · rw [claimLane_get]
    split
    · exact hr
    · exact (without_law _ _).1 (hrange i)

/-- A HOLD's record is in range, and keeps the ticket of the record it refreshes. -/
theorem holdLanes_law {a elapsed : Nat} {st : Role} {muting warned : Bool} {k : Fin 8} (hlo : 1 ≤ a) (hhi : a ≤ 1000)
    (hst : st ≠ .listener) (he : elapsed ≤ 65535) (h : LanesLaw v) :
    LanesLaw (holdLanes a st k elapsed muting warned v) := by
  simp only [holdLanes]
  split
  · exact claimLane_law ⟨by simp, he, by simp, hlo, hhi, hst⟩ h
  next r hr =>
    have hrange : Lane.InRange (.held r) := hr ▸ h.2 k
    split
    · exact claimLane_law ⟨by simp, he, hrange.2.2.1, hlo, hhi, hst⟩ h
    · split
      · exact claimLane_law ⟨by simp, he, by simp, hlo, hhi, hst⟩ h
      · refine mapLanes_law (fun i hi => ?_) h
        split
        · exact ⟨trivial, by simp [Lane.holder?]⟩
        · exact ⟨hi, fun _ => id⟩

theorem cutLanes_law {target : Nat} (h : LanesLaw v) : LanesLaw (cutLanes target v) := by
  refine mapLanes_law (fun i hi => ?_) h
  cases hl : v[i] with
  | free => exact ⟨trivial, fun _ => id⟩
  | held r =>
    dsimp only
    split
    · exact ⟨trivial, by simp [Lane.holder?]⟩
    · exact ⟨hl ▸ hi, fun _ => id⟩

theorem yieldLanes_law {a : Nat} {n : Fin 8} (h : LanesLaw v) : LanesLaw (yieldLanes a n v) := by
  refine mapLanes_law (fun i hi => ?_) h
  split
  · exact ⟨(without_law _ _).1 hi, fun b hb => ((without_law _ _).2 b hb).1⟩
  · exact ⟨hi, fun _ => id⟩

theorem tickLane_law (own : Bool) (l : Lane) (hl : l.InRange) :
    (tickLane own l).InRange ∧ ∀ a, (tickLane own l).holder? = some a → l.holder? = some a := by
  cases l with
  | free => exact ⟨trivial, fun _ => id⟩
  | held r =>
    obtain ⟨hsil, -, hrest⟩ := hl
    simp only [tickLane]
    split
    · exact ⟨⟨hsil, by simp, hrest⟩, fun _ => id⟩
    · split
      · exact ⟨trivial, by simp [Lane.holder?]⟩
      next hlow => exact ⟨⟨by simp only; omega, by simp, hrest⟩, fun _ => id⟩

/-! ## The mute source list -/

theorem muteLeave_law {l : List MuteSource} (a : Nat) (h : MutesLaw l) : MutesLaw (muteLeave a l) := by
  obtain ⟨hlen, hnodup, hsil⟩ := h
  have hsub : (muteLeave a l).Sublist l := List.filter_sublist
  exact ⟨hsub.length_le.trans hlen, hnodup.sublist (hsub.map _), fun m hm => hsil m (hsub.mem hm)⟩

theorem muteJoin_law {l : List MuteSource} (a : Nat) (h : MutesLaw l) : MutesLaw (muteJoin a l) := by
  obtain ⟨hlen, hnodup, hsil⟩ := h
  unfold muteJoin
  split
  · refine ⟨by simpa using hlen, ?_, ?_⟩
    · have hmap : ∀ m : MuteSource, (if m.chair = a then { m with silence := 0 } else m).chair = m.chair :=
        fun m => by split <;> rfl
      simpa [Function.comp_def, hmap] using hnodup
    · simp only [List.mem_map]
      rintro _ ⟨m, hm, rfl⟩
      split
      · simp
      · exact hsil m hm
  next hnew =>
    split
    next hroom =>
      refine ⟨by simp only [List.length_append, List.length_singleton]; omega, ?_, ?_⟩
      · have hout : ∀ m ∈ l, m.chair ≠ a := by simpa using hnew
        rw [List.map_append, List.nodup_append]
        refine ⟨hnodup, by simp, ?_⟩
        simp only [List.mem_map, List.map_cons, List.map_nil, List.mem_singleton]
        rintro _ ⟨m, hm, rfl⟩ _ rfl
        exact hout m hm
      · simp only [List.mem_append, List.mem_singleton]
        rintro m (hm | rfl)
        · exact hsil m hm
        · simp
    next => exact ⟨hlen, hnodup, hsil⟩

/-- R68: the tick removes what has been silent for two ticks, and raises the rest. -/
theorem tickMutes_eq (l : List MuteSource) :
    tickMutes l = (l.filter fun m => decide (m.silence < 2)).map fun m => { m with silence := m.silence + 1 } := by
  rw [tickMutes, List.filter_map]
  congr 1
  exact List.filter_congr fun m _ => by simp [Nat.succ_lt_succ_iff]

theorem tickMutes_law {l : List MuteSource} (h : MutesLaw l) : MutesLaw (tickMutes l) := by
  obtain ⟨hlen, hnodup, -⟩ := h
  have hsub : (l.filter fun m => decide (m.silence < 2)).Sublist l := List.filter_sublist
  rw [tickMutes_eq]
  refine ⟨by simpa using hsub.length_le.trans hlen, ?_, ?_⟩
  · simpa [Function.comp_def] using hnodup.sublist (hsub.map _)
  · simp only [List.mem_map, List.mem_filter, decide_eq_true_eq]
    rintro _ ⟨m, ⟨-, hm⟩, rfl⟩
    exact hm

/-! ## The Floor View -/

theorem setSource_kept (chair muting : Bool) (a : Nat) (s : State) :
    LawKept s (if chair then setMutes (if muting then muteJoin a s.mutes else muteLeave a s.mutes) s else s) := by
  split
  · refine setMutes_kept fun h => ?_
    split
    · exact muteJoin_law a h
    · exact muteLeave_law a h
  · exact .refl s

theorem viewArrival_kept {f : Frame} (hf : Sound f) (s : State) : LawKept s (viewArrival f s) := by
  unfold viewArrival
  cases f.body with
  | take lane displace muting =>
    refine (setLanes_kept fun h => claimLane_law ?_ h).trans (setSource_kept (decide _) muting _ _)
    exact ⟨by simp, by simp, Nat.le_of_lt_succ f.head.key.isLt, hf.lower, hf.upper, hf.standing⟩
  | yield lane reason =>
    exact (setLanes_kept yieldLanes_law).trans (setSource_kept (decide _) false _ _)
  | hold elapsed muting warned =>
    exact (setLanes_kept (holdLanes_law hf.lower hf.upper hf.standing (Nat.le_of_lt_succ elapsed.isLt))).trans
      (setSource_kept (decide _) muting _ _)
  | direct target action argument =>
    dsimp only
    split
    · exact setLanes_kept cutLanes_law
    · exact .refl s
  | order => exact .refl s
  | withdraw => exact .refl s
  | ask => exact .refl s

theorem viewTickView_kept (s : State) : LawKept s (viewTickView s) := by
  have hcount : LawKept s { s with viewTicks := nextTick s.viewTicks } :=
    { LawKept.refl s with view := fun ⟨hview, hlanes, _, hmutes⟩ => ⟨hview, hlanes, by simp only [nextTick]; split <;> omega, hmutes⟩ }
  exact (hcount.trans (setLanes_kept (mapLanes_law fun i => tickLane_law _ _))).trans (setMutes_kept tickMutes_law)

/-! ## The line window -/

/-- R75, R77: the law of a window at a station with an address, under a Mark. -/
def LineLaw (addr mark : Nat) (w : List Entry) : Prop :=
  w.length ≤ 32 ∧ w.Pairwise (fun e e' => pairBefore e.ticket e.asker e'.ticket e'.asker = true) ∧
    (w.map Entry.asker).Nodup ∧ (∀ e ∈ w, e.asker ≠ addr ∧ 1 ≤ e.ticket ∧ e.ticket ≤ mark ∧ e.silence ≤ 2) ∧
    mark ≤ 65535

theorem LineLaw.sublist {addr mark : Nat} {w w' : List Entry} (h : LineLaw addr mark w) (hsub : w'.Sublist w) :
    LineLaw addr mark w' := by
  obtain ⟨hlen, hpairs, hnodup, hentries, hmark⟩ := h
  exact ⟨hsub.length_le.trans hlen, hpairs.sublist hsub, hnodup.sublist (hsub.map _),
    fun e he => hentries e (hsub.mem he), hmark⟩

/-- Entries whose pairs stay keep the law. -/
theorem LineLaw.map {addr mark : Nat} {w : List Entry} {g : Entry → Entry} (h : LineLaw addr mark w)
    (hg : ∀ e ∈ w, (g e).asker = e.asker ∧ (g e).ticket = e.ticket ∧ (g e).silence ≤ 2) :
    LineLaw addr mark (w.map g) := by
  obtain ⟨hlen, hpairs, hnodup, hentries, hmark⟩ := h
  refine ⟨by simpa using hlen, ?_, ?_, ?_, hmark⟩
  · refine List.pairwise_map.mpr (hpairs.imp_of_mem fun {a b} ha hb hab => ?_)
    rw [(hg a ha).1, (hg a ha).2.1, (hg b hb).1, (hg b hb).2.1]
    exact hab
  · have hask : (w.map g).map Entry.asker = w.map Entry.asker := by
      rw [List.map_map]
      exact List.map_congr_left fun e he => (hg e he).1
    rwa [hask]
  · simp only [List.mem_map]
    rintro _ ⟨e, he, rfl⟩
    obtain ⟨hne, hlo, hhi, -⟩ := hentries e he
    obtain ⟨ha, ht, hs⟩ := hg e he
    exact ⟨ha ▸ hne, ht ▸ hlo, ht ▸ hhi, hs⟩

theorem LineLaw.raise {addr mark : Nat} {w : List Entry} (h : LineLaw addr mark w) {k : Nat} (hk : k ≤ 65535) :
    LineLaw addr (max mark k) w := by
  obtain ⟨hlen, hpairs, hnodup, hentries, hmark⟩ := h
  refine ⟨hlen, hpairs, hnodup, fun e he => ?_, by omega⟩
  obtain ⟨hne, hlo, hhi, hs⟩ := hentries e he
  exact ⟨hne, hlo, by omega, hs⟩

theorem LineLaw.nil {addr mark : Nat} (h : mark ≤ 65535) : LineLaw addr mark [] := by
  simpa [LineLaw] using h

theorem pairBefore_iff {t a t' a' : Nat} : pairBefore t a t' a' = true ↔ t < t' ∨ (t = t' ∧ a < a') := by
  simp [pairBefore]

theorem insertEntry_perm (e : Entry) (w : List Entry) : (insertEntry e w).Perm (e :: w) := by
  induction w with
  | nil => exact .refl _
  | cons x rest ih =>
    unfold insertEntry
    split
    · exact .refl _
    · exact (ih.cons x).trans (.swap e x rest)

/-- R75: the place of its pair keeps the window ascending. -/
theorem insertEntry_ascending {e : Entry} {w : List Entry}
    (hw : w.Pairwise (fun x y => pairBefore x.ticket x.asker y.ticket y.asker = true))
    (hnew : ∀ x ∈ w, x.asker ≠ e.asker) :
    (insertEntry e w).Pairwise (fun x y => pairBefore x.ticket x.asker y.ticket y.asker = true) := by
  induction w with
  | nil => simp [insertEntry]
  | cons x rest ih =>
    obtain ⟨hx, hrest⟩ := List.pairwise_cons.mp hw
    unfold insertEntry
    split
    next hbefore =>
      refine List.pairwise_cons.mpr ⟨fun y hy => ?_, hw⟩
      obtain rfl | hy := List.mem_cons.mp hy
      · exact hbefore
      · have hxy := hx y hy
        rw [pairBefore_iff] at hbefore hxy ⊢
        omega
    next hbefore =>
      refine List.pairwise_cons.mpr ⟨fun y hy => ?_, ih hrest fun y hy => hnew y (List.mem_cons_of_mem x hy)⟩
      obtain rfl | hy := List.mem_cons.mp ((insertEntry_perm e rest).mem_iff.mp hy)
      · have hne := hnew x List.mem_cons_self
        rw [pairBefore_iff] at hbefore ⊢
        omega
      · exact hx y hy

theorem mem_removeAsker {a : Nat} {w : List Entry} {x : Entry} : x ∈ removeAsker a w ↔ x ∈ w ∧ x.asker ≠ a := by
  simp [removeAsker]

/-- One entry of an asker: another with that asker is the same. -/
theorem eq_of_asker_eq {w : List Entry} (h : (w.map Entry.asker).Nodup) {x y : Entry} (hx : x ∈ w) (hy : y ∈ w)
    (hxy : x.asker = y.asker) : x = y := List.inj_on_of_nodup_map h hx hy hxy

/-- R76, R85: an ASK keeps the law of the window. -/
theorem LineLaw.ask {addr mark : Nat} {w : List Entry} {e : Entry} (h : LineLaw addr mark w) (hne : e.asker ≠ addr)
    (hlo : 1 ≤ e.ticket) (hhi : e.ticket ≤ mark) (hs : e.silence ≤ 2) : LineLaw addr mark (askWindow e w) := by
  unfold askWindow
  split
  next hany =>
    obtain ⟨y, hy, hya, hyt⟩ : ∃ y ∈ w, y.asker = e.asker ∧ y.ticket = e.ticket := by simpa using hany
    refine h.map fun x hx => ?_
    split
    next hxe =>
      obtain rfl := eq_of_asker_eq h.2.2.1 hx hy (hxe.trans hya.symm)
      exact ⟨hya.symm, hyt.symm, hs⟩
    next => exact ⟨rfl, rfl, (h.2.2.2.1 x hx).2.2.2⟩
  next =>
    obtain ⟨-, hpairs, hnodup, hentries, hmark⟩ : LineLaw addr mark (removeAsker e.asker w) :=
      h.sublist List.filter_sublist
    have hperm := insertEntry_perm e (removeAsker e.asker w)
    have hnew : ∀ x ∈ removeAsker e.asker w, x.asker ≠ e.asker := fun x hx => (mem_removeAsker.mp hx).2
    have htake : ((insertEntry e (removeAsker e.asker w)).take 32).Sublist (insertEntry e (removeAsker e.asker w)) :=
      List.take_sublist _ _
    refine ⟨List.length_take_le _ _, (insertEntry_ascending hpairs hnew).sublist htake, ?_, fun x hx => ?_, hmark⟩
    · refine List.Nodup.sublist (htake.map _) ((hperm.map _).nodup_iff.mpr ?_)
      refine List.nodup_cons.mpr ⟨?_, hnodup⟩
      simpa using hnew
    · obtain rfl | hx := List.mem_cons.mp (hperm.mem_iff.mp (htake.mem hx))
      · exact ⟨hne, hlo, hhi, hs⟩
      · exact hentries x hx

/-- R90: the tick removes what has been silent for two ticks, and raises the rest. -/
theorem tickWindow_eq (w : List Entry) :
    tickWindow w = (w.filter fun e => decide (e.silence < 2)).map fun e => { e with silence := e.silence + 1 } := by
  rw [tickWindow, List.filter_map]
  congr 1
  exact List.filter_congr fun e _ => by simp [Nat.succ_lt_succ_iff]

theorem LineLaw.tick {addr mark : Nat} {w : List Entry} (h : LineLaw addr mark w) : LineLaw addr mark (tickWindow w) := by
  rw [tickWindow_eq]
  refine (h.sublist List.filter_sublist).map fun e he => ⟨rfl, rfl, ?_⟩
  have := (List.mem_filter.mp he).2
  simpa using this

@[simp] theorem setWindow_window (w : List Entry) (s : State) : (setWindow w s).window = w := by
  simp only [setWindow]
  split <;> rfl

theorem setWindow_kept {w : List Entry} (h : LineLaw s.addr s.mark s.window → LineLaw s.addr s.mark w) :
    LawKept s (setWindow w s) := by
  have hset : LawKept s { s with window := w } := { LawKept.refl s with window := h }
  simp only [setWindow]
  split
  · exact hset.trans (post_kept _ _ _)
  · exact hset

theorem raiseMark_kept {k : Nat} (hk : k ≤ 65535) (s : State) : LawKept s (raiseMark k s) where
  __ := LawKept.refl s
  window h := LineLaw.raise (w := s.window) h hk

theorem dropWindow_sublist (own target : Nat) (w : List Entry) : (dropWindow own target w).Sublist w := by
  unfold dropWindow
  split
  · exact List.nil_sublist w
  · split
    · exact .refl w
    · exact List.filter_sublist

theorem lineArrival_kept (own : Bool) {f : Frame} (hf : Sound f) (s : State) : LawKept s (lineArrival own f s) := by
  have hkey : f.head.key.toNat ≤ 65535 := Nat.le_of_lt_succ f.head.key.isLt
  have hraise := raiseMark_kept hkey s
  have hbody := hf.body
  unfold lineArrival
  cases hb : f.body with
  | ask refresh =>
    rw [hb] at hbody
    dsimp only
    split
    · exact hraise
    next hother => exact hraise.trans (setWindow_kept fun h => h.ask hother hbody (le_max_right _ _) (by simp))
  | withdraw reason =>
    dsimp only
    split
    · exact hraise
    · exact hraise.trans (setWindow_kept fun h => h.sublist List.filter_sublist)
  | take lane displace muting =>
    dsimp only
    split
    · exact hraise
    · have hset := hraise.trans (setWindow_kept (w := removeAsker f.head.sender.toNat (raiseMark f.head.key.toNat s).window)
        fun h => h.sublist List.filter_sublist)
      split
      · exact hset.trans (endOwnAsk_kept _ _)
      · exact hset
  | direct target action argument =>
    dsimp only
    split
    · have hset : LawKept s (setWindow (dropWindow s.addr target.toNat s.window) s) :=
        setWindow_kept fun h => h.sublist (dropWindow_sublist _ _ _)
      split
      · exact hset.trans (endOwnAsk_kept _ _)
      · exact hset
    · exact .refl s
  | order => exact .refl s
  | yield => exact .refl s
  | hold => exact .refl s

theorem lineEmptied_kept (clash clear : Bool) (s : State) : LawKept s (lineEmptied clash clear s) := by
  have hset : LawKept s (setWindow [] s) := setWindow_kept fun h => .nil h.2.2.2.2
  simp only [lineEmptied]
  refine LawKept.trans ?_ (endOwnAsk_kept _ _)
  split
  · exact hset.trans { LawKept.refl (setWindow [] s) with window := fun _ => by simp [State.WindowLaw] }
  · exact hset

theorem tickWait_kept (s : State) : LawKept s (tickWait s) := by
  unfold tickWait
  split
  · exact { LawKept.refl s with timer := fun _ ⟨hr, hc, hg, he, _, hlw, hls, hi⟩ => ⟨hr, hc, hg, he, by simp, hlw, hls, hi⟩ }
  · exact .refl s

theorem viewTickLine_kept (s : State) : LawKept s (viewTickLine s) :=
  ((setWindow_kept LineLaw.tick).trans (tickWait_kept _)).trans (placeRefresh_kept _)

theorem askLive_kept (t : Nat) (s : State) : LawKept s (askLive t s) where
  __ := LawKept.refl s
  timer := fun _ ⟨hr, hc, hg, he, _, hlw, hls, hi⟩ => ⟨hr, hc, hg, he, by simp [askLive], hlw, hls, hi⟩

/-! ## The Floor Order and EXTEND -/

theorem adopt_kept (clash : Bool) {r : OrderRec} (hr : r.InRange) (clear : Bool) (s : State) :
    LawKept s (adopt clash r clear s) := by
  have hset : LawKept s (post .fo (.orderChanged r.source) { s with order := r }) :=
    { LawKept.refl s with order := fun _ => hr, timer := fun _ ht => ht }
  simp only [adopt]
  split
  · exact hset.trans (lineEmptied_kept _ _ _)
  · exact hset

theorem orderArrivalFO_kept (clash : Bool) {f : Frame} (hf : Sound f) (s : State) :
    LawKept s (orderArrivalFO clash f s) := by
  have hbody := hf.body
  unfold orderArrivalFO
  cases hb : f.body with
  | order source sequence mode l a g c clear =>
    rw [hb] at hbody
    dsimp only
    split
    · refine adopt_kept _ ?_ _ _
      exact hbody
    · exact .refl s
  | direct => exact .refl s
  | yield => exact .refl s
  | take => exact .refl s
  | withdraw => exact .refl s
  | ask => exact .refl s
  | hold => exact .refl s

theorem timerArrival_kept (f : Frame) (s : State) : LawKept s (timerArrival f s) := by
  unfold timerArrival
  split
  · split
    · refine st_kept (fun _ ⟨hr, _, hg, he, hw, hlw, hls, hi⟩ => ⟨hr, ?_, hg, he, hw, hlw, hls, hi⟩) id
      simp only [clampCorrection]
      omega
    · exact .refl s
  · exact .refl s

theorem floorArrival_kept (own clash : Bool) {f : Frame} (hf : Sound f) (s : State) :
    LawKept s (floorArrival own clash f s) :=
  (((viewArrival_kept hf s).trans (lineArrival_kept own hf _)).trans (orderArrivalFO_kept clash hf _)).trans
    (timerArrival_kept f _)

end Sys2Proof.Kept
end

section

/-! The laws at the Speech Timer, the Seat Agent, the Voice Unit and the keys. -/

namespace Sys2Proof.Kept

open Sys2Proof Sys2Proof.Machine

-- One proof at a time: the text is compiled in bounded memory.
set_option Elab.async false

/-! ## The Speech Timer -/

theorem withCounted_eq_idle_iff {p : Phase} {c : Counted} : p.withCounted c = .idle ↔ p = .idle := by
  cases p <;> simp [Phase.withCounted]

theorem ne_idle_of_counted {p : Phase} {c : Counted} (h : p.counted? = some c) : p ≠ .idle := by
  rintro rfl
  simp [Phase.counted?] at h

/-- R137: a count comes only while the timer runs, and stays in range. -/
theorem tickRemaining_some {st : SpeechTimer} {r : Nat} (h : tickRemaining st = some r) :
    st.phase ≠ .idle ∧ (st.remaining ≤ 4095 → r ≤ 4095) := by
  unfold tickRemaining at h
  cases hp : st.phase with
  | idle => simp [hp] at h
  | counting c =>
    simp only [hp, Option.some.injEq] at h
    refine ⟨by simp, fun hr => ?_⟩
    rw [← h]
    split
    · simp only [correctRemaining]
      omega
    · omega
  | paused c =>
    simp only [hp] at h
    refine ⟨by simp, fun hr => ?_⟩
    split at h
    · rw [← Option.some.inj h]
      simp only [correctRemaining]
      omega
    · exact absurd h (by simp)

theorem seatWarning_kept (s : State) : LawKept s (seatWarning s) := by
  unfold seatWarning
  split
  next h _ => exact ((seat_kept (.warned h)).trans (post_kept _ _ _)).trans (placeHold_kept _)
  next => exact .refl s

theorem seatLift_kept (s : State) : LawKept s (seatLift s) := by
  unfold seatLift
  split
  next h _ => exact ((seat_kept (.live h)).trans (post_kept _ _ _)).trans (placeHold_kept _)
  next => exact .refl s

/-- R138, R140: the counted phase changes, and what remains with it; an idle timer has no counted phase. -/
theorem phase_kept {s : State} {c : Counted} {remaining : Nat} (hphase : s.st.phase ≠ .idle)
    (hr : s.st.InRange → remaining ≤ 4095) :
    LawKept s { s with st := { s.st with phase := s.st.phase.withCounted c, remaining := remaining } } :=
  st_kept
    (fun _ hin => by
      obtain ⟨-, hc, hg, he, hw, hlw, hls, -⟩ := id hin
      exact ⟨hr hin, hc, hg, he, hw, hlw, hls, fun hidle => absurd (withCounted_eq_idle_iff.mp hidle) hphase⟩)
    fun hchair hrole => absurd (hchair hrole) hphase

theorem expire_kept (s : State) : LawKept s (expire s) := by
  unfold expire
  split
  · exact .refl s
  next hphase =>
    split
    · refine (phase_kept (ne_idle_of_counted hphase) fun ⟨_, _, hg, _⟩ => ?_).trans (seatWarning_kept _)
      omega
    · exact yieldLane_kept _ s
  next => exact yieldLane_kept _ s

theorem countSpeech_kept (s : State) : LawKept s (countSpeech s) := by
  simp only [countSpeech]
  split
  · exact .refl s
  next r htick =>
    obtain ⟨hphase, hle⟩ := tickRemaining_some htick
    have hcount : LawKept s { s with st := { s.st with remaining := r, correction := 0 } } :=
      st_kept
        (fun _ ⟨hr, _, hg, he, hw, hlw, hls, _⟩ =>
          ⟨hle hr, by simp, hg, he, hw, hlw, hls, fun hidle => absurd hidle hphase⟩)
        id
    split
    · exact hcount.trans (expire_kept _)
    · split
      · exact (hcount.trans (phase_kept hphase fun ⟨hr, _⟩ => hr)).trans (seatLift_kept _)
      · exact hcount

theorem speechTick_kept (s : State) : LawKept s (speechTick s) := by
  unfold speechTick
  split
  · have helapsed : LawKept s { s with st := { s.st with elapsed := min 65535 (s.st.elapsed + 1) } } :=
      st_kept (fun _ ⟨hr, hc, hg, _, hw, hlw, hls, hi⟩ => ⟨hr, hc, hg, by simp, hw, hlw, hls, hi⟩) id
    exact helapsed.trans (countSpeech_kept _)
  · exact .refl s

theorem speechExpiry_kept (s : State) : LawKept s (speechExpiry s) := by
  unfold speechExpiry
  split
  · exact countSpeech_kept s
  · exact .refl s

/-! ## The Seat Agent -/

theorem askNew_kept (s : State) : LawKept s (askNew s) := by
  unfold askNew
  split
  · exact (enterIdle_kept s).trans (refuse_kept _ _)
  · split
    · exact (enterIdle_kept s).trans (refuse_kept _ _)
    · have hask : LawKept s { s with ownAsk := .pending } := { LawKept.refl s with }
      exact (hask.trans (placeFloor_kept _ _)).trans (seat_kept .asking)

theorem carryOut_kept (k : TakeKind) (d : Decision) (s : State) : LawKept s (carryOut k d s) := by
  cases d with
  | take lane displace => exact beginTake_kept _ s
  | ask => exact askNew_kept s
  | noLane => exact refuse_kept _ s
  | nothing => exact .refl s

theorem voiceAttack_kept (s : State) : LawKept s (voiceAttack s) := by
  unfold voiceAttack
  split
  · split
    · exact beginTake_kept _ s
    · split
      · exact refuse_kept _ s
      · exact signalRefusal_kept s
    · exact .refl s
  · exact .refl s

theorem voiceRelease_kept (s : State) : LawKept s (voiceRelease s) := by
  unfold voiceRelease
  split
  · split
    · exact yieldLane_kept _ s
    · exact .refl s
  · exact .refl s

theorem evaluate_kept (s : State) : LawKept s (evaluate s) := by
  unfold evaluate
  split
  · split
    · exact beginTake_kept _ s
    · exact .refl s
  · exact .refl s

theorem signals_kept (before s : State) : LawKept s (signals before s) := by
  unfold signals
  split
  · exact evaluate_kept s
  · exact .refl s

theorem retake_kept (t : IntendedTake) (lane : Fin 8) (displace : Bool) (s : State) :
    LawKept s (retake t lane displace s) := seat_kept (.taking _)

theorem rerunTake_kept (t : IntendedTake) (s : State) : LawKept s (rerunTake t s) := by
  have hleave := leaveTake_kept t s
  unfold rerunTake
  cases t.kind with
  | key =>
    dsimp only
    split
    · exact retake_kept t _ _ s
    · exact (removeFloor_kept s).trans (askNew_kept _)
    · exact hleave.trans (refuse_kept _ _)
    · exact hleave.trans (signalRefusal_kept _)
  | line =>
    dsimp only
    split
    · exact retake_kept t _ _ s
    · exact hleave
  | grant =>
    dsimp only
    split
    · exact retake_kept t _ _ s
    · exact hleave.trans (post_kept _ _ _)
  | voice =>
    dsimp only
    split
    · split
      · exact retake_kept t _ _ s
      · exact hleave
    · exact hleave
  | priority =>
    dsimp only
    split
    · exact retake_kept t _ _ s
    · exact hleave.trans (refuse_kept _ _)

theorem restateTake_kept (t : IntendedTake) (s : State) : LawKept s (restateTake t s) := by
  unfold restateTake
  split
  · exact seat_kept (.taking _)
  · exact rerunTake_kept t s

/-- The seat's speech has ended and it enters IDLE. -/
theorem endAndIdle_kept (s : State) : LawKept s (enterIdle (speechEnd s)) :=
  (speechEnd_kept s).trans (enterIdle_kept _)

/-- The FLOOR frame is taken out and the seat enters IDLE. -/
theorem removeAndIdle_kept (s : State) : LawKept s (enterIdle (removeFloor s)) :=
  (removeFloor_kept s).trans (enterIdle_kept _)

theorem seatTake_kept (taker : Nat) (lane : Fin 8) (displace : Bool) (s : State) :
    LawKept s (seatTake taker lane displace s) := by
  unfold seatTake
  split
  · split
    · exact (endAndIdle_kept s).trans (post_kept _ _ _)
    · exact .refl s
  · split
    · exact (endAndIdle_kept s).trans (post_kept _ _ _)
    · exact .refl s
  · split
    · exact removeAndIdle_kept s
    · exact .refl s
  · exact .refl s

theorem seatHold_kept (sender : Nat) (lane : Fin 8) (s : State) : LawKept s (seatHold sender lane s) := by
  unfold seatHold
  split
  · split
    · refine LawKept.trans ?_ (post_kept _ _ _)
      split
      · exact endAndIdle_kept s
      · exact yieldLane_kept _ s
    · exact .refl s
  · exact .refl s

theorem seatCut_kept (s : State) : LawKept s (seatCut s) := by
  unfold seatCut
  split
  · exact (endAndIdle_kept s).trans (post_kept _ _ _)
  · exact (endAndIdle_kept s).trans (post_kept _ _ _)
  · exact removeAndIdle_kept s
  · exact .refl s

theorem seatGrant_kept (chair : Nat) (s : State) : LawKept s (seatGrant chair s) := by
  unfold seatGrant
  split
  · split
    · exact .refl s
    · split
      · exact beginTake_kept _ s
      · exact post_kept _ _ s
  · exact .refl s

theorem seatAskEnded_kept (s : State) : LawKept s (seatAskEnded s) := by
  unfold seatAskEnded
  split
  · exact removeAndIdle_kept s
  · exact enterIdle_kept s
  · split
    · exact removeAndIdle_kept s
    · exact .refl s
  · exact .refl s

theorem emptyFloor_kept (s : State) : LawKept s { s with sq := { s.sq with floor := none } } :=
  sq_kept fun ⟨hl, hd, ho, _, ha, hh, hr⟩ => ⟨hl, hd, ho, by simp, ha, hh, hr⟩

theorem dropWithdraw_kept (s : State) : LawKept s (dropWithdraw s) := by
  unfold dropWithdraw
  split
  · exact emptyFloor_kept s
  · exact .refl s

/-- The seat leaves the line when its Own Ask has ended. -/
theorem askGone_kept {p : Prop} [Decidable p] (s : State) : LawKept s (if p then seatAskEnded s else s) := by
  split
  · exact seatAskEnded_kept s
  · exact .refl s

theorem seatOrder_kept (clear : Bool) (before s : State) : LawKept s (seatOrder clear before s) := by
  simp only [seatOrder]
  split
  · exact .refl s
  · have hdrop : ∀ (p : Bool) (u : State), LawKept u (if p then dropWithdraw u else u) := fun p u => by
      split
      · exact dropWithdraw_kept u
      · exact .refl u
    have hended := (askGone_kept (p := before.ownAsk ≠ .none ∧ s.ownAsk = .none) s).trans
      (hdrop (clear || (decide (s.order.mode ≠ before.order.mode) && s.order.mode.emptiesLine)) _)
    split
    · exact hended.trans (flags_kept _)
    · exact hended

theorem seatArrival_kept (f : Frame) (before s : State) : LawKept s (seatArrival f before s) := by
  unfold seatArrival
  cases f.body with
  | take lane displace muting =>
    dsimp only
    split
    · exact .refl s
    · exact seatTake_kept _ _ _ s
  | hold elapsed muting warned =>
    dsimp only
    split
    · exact .refl s
    · exact seatHold_kept _ _ s
  | direct target action argument =>
    dsimp only
    split
    · exact seatCut_kept s
    · split
      · exact seatGrant_kept _ s
      · split
        · exact (askGone_kept s).trans (dropWithdraw_kept _)
        · exact .refl s
  | order => exact seatOrder_kept _ _ s
  | yield => exact .refl s
  | withdraw => exact .refl s
  | ask => exact .refl s

theorem sendQ_reset_inRange (fl : Option Flight) : SendQ.InRange { SendQ.reset with inFlight := fl } := by
  simp [SendQ.InRange, SendQ.reset]

theorem addressClash_kept (s : State) : LawKept s (addressClash s) := by
  have hspeech : LawKept s (if s.seat.speaking?.isSome then speechEnd s else s) := by
    split
    · exact speechEnd_kept s
    · exact .refl s
  have hempty : ∀ u : State, LawKept u (emptyQueue u) := fun u => sq_kept fun _ => sendQ_reset_inRange _
  have hlisten := hspeech.trans (enterListen_kept _)
  have hclear : ∀ (u : State) (x : SeatFlags), LawKept u { u with flags := x, flash := .stopped } := fun u _ => { LawKept.refl u with }
  exact (((hlisten.trans (hempty _)).trans (endOwnAsk_kept .clash _)).trans (hclear _ _)).trans (post_kept _ _ _)

/-! ## The Voice Unit -/

/-- The two counters after a sample, of which one is 0 (R149), and either detector state. -/
theorem counters_kept {s : State} {a r : Nat} {voiced : Bool} (ha : a ≤ 40) (hr : r ≤ s.prof.releaseHold)
    (hzero : a = 0 ∨ r = 0) :
    LawKept s { s with vu := { s.vu with attack := a, release := r, voiced := voiced } } :=
  vu_kept fun ⟨he, ht, _, _, _, htrim⟩ => ⟨he, ht, ha, hr, hzero, htrim⟩

theorem voiced_kept (s : State) (voiced : Bool) : LawKept s { s with vu := { s.vu with voiced := voiced } } :=
  vu_kept id

theorem attackDone_kept (s : State) : LawKept s (attackDone s) := by
  unfold attackDone
  split
  · exact .refl s
  · dsimp only
    split
    · exact (voiced_kept s true).trans (voiceAttack_kept _)
    · exact voiced_kept s true

theorem releaseDone_kept (s : State) : LawKept s (releaseDone s) :=
  (voiced_kept s false).trans (voiceRelease_kept _)

theorem countAttack_kept (s : State) : LawKept s (countAttack s) := by
  have hcount : LawKept s { s with vu := { s.vu with attack := min 40 (s.vu.attack + 1), release := 0 } } :=
    counters_kept (min_le_left _ _) (Nat.zero_le _) (.inr rfl)
  unfold countAttack
  split
  · exact hcount.trans (attackDone_kept _)
  · exact hcount

theorem countRelease_kept (s : State) : LawKept s (countRelease s) := by
  have hcount : LawKept s
      { s with vu := { s.vu with attack := 0, release := min s.prof.releaseHold (s.vu.release + 1) } } :=
    counters_kept (Nat.zero_le _) (min_le_left _ _) (.inl rfl)
  unfold countRelease
  split
  · exact hcount.trans (releaseDone_kept _)
  · exact hcount

theorem moveCounters_kept (s : State) : LawKept s (moveCounters s) := by
  have hzero : LawKept s { s with vu := { s.vu with attack := 0, release := 0 } } :=
    counters_kept (Nat.zero_le _) (Nat.zero_le _) (.inl rfl)
  unfold moveCounters
  split
  · exact hzero
  · split
    · exact countAttack_kept s
    · split
      · exact hzero
      · exact countRelease_kept s

theorem moveTrim_kept (s : State) : LawKept s (moveTrim s) := by
  have margin := Envelope.prof_trimMargin_pos s
  unfold moveTrim
  split
  · exact .refl s
  next t ht =>
    dsimp only
    split
    · refine LawKept.trans (vu_kept fun ⟨he, _, ha, hr, har, _⟩ => ?_) (post_kept _ _ _)
      exact ⟨he, by simp only; omega, ha, hr, har, by simp⟩
    next hcount =>
      refine vu_kept fun ⟨he, hth, ha, hr, har, htrim⟩ => ⟨he, hth, ha, hr, har, ?_⟩
      obtain ⟨-, hsum⟩ := htrim t ht
      rintro _ ⟨⟩
      simp only [State.level]
      omega

theorem levelSample_kept (x : BitVec 8) (s : State) : LawKept s (levelSample x s) := by
  have henv : LawKept s { s with vu := { s.vu with envelope := stepEnvelope s.vu.envelope x.toNat } } :=
    vu_kept fun ⟨he, hrest⟩ => ⟨Envelope.stepEnvelope_le he (Nat.le_of_lt_succ x.isLt), hrest⟩
  exact (henv.trans (moveCounters_kept _)).trans (moveTrim_kept _)

theorem attackCompletion_kept (s : State) : LawKept s (attackCompletion s) := by
  unfold attackCompletion
  split
  · exact countAttack_kept s
  · exact .refl s

theorem releaseCompletion_kept (s : State) : LawKept s (releaseCompletion s) := by
  unfold releaseCompletion
  split
  · exact countRelease_kept s
  · exact .refl s

theorem trimCompletion_kept (s : State) : LawKept s (trimCompletion s) := by
  unfold trimCompletion
  split
  · split
    · exact moveTrim_kept s
    · exact .refl s
  · exact .refl s

theorem setCough_kept (s : State) : LawKept s (setCough s) where
  __ := LawKept.refl s
  voice := fun ⟨he, ht, _, _, _, htrim⟩ => ⟨he, ht, Nat.zero_le _, Nat.zero_le _, .inl rfl, htrim⟩

theorem startTrim_kept (s : State) : LawKept s (startTrim s) :=
  vu_kept fun ⟨he, ht, ha, hr, har, _⟩ => ⟨he, ht, ha, hr, har, by simp⟩

/-! ## The keys -/

theorem setLatch_kept (c : Cause) (s : State) : LawKept s (setLatch c s) := flags_kept _

theorem cancelAsk_kept (c : Cause) (s : State) : LawKept s (cancelAsk c s) := by
  unfold cancelAsk
  split
  · exact setLatch_kept c s
  · exact ((removeFloor_kept s).trans (endOwnAsk_kept _ _)).trans (enterIdle_kept _)

theorem cancelWait_kept (c : Cause) (s : State) : LawKept s (cancelWait c s) := by
  unfold cancelWait
  split
  · exact ((endOwnAsk_kept _ s).trans (placeFloor_kept _ _)).trans (enterIdle_kept _)
  · exact .refl s

theorem talkTaking_kept (t : IntendedTake) (c : Cause) (s : State) : LawKept s (talkTaking t c s) := by
  unfold talkTaking
  split
  · exact seat_kept (.taking _)
  · split
    · exact .refl s
    · split
      · exact setLatch_kept c s
      · exact leaveTake_kept t s

theorem talkPress_kept (c : Cause) (s : State) : LawKept s (talkPress c s) := by
  unfold talkPress
  split
  · exact carryOut_kept _ _ s
  · exact cancelAsk_kept c s
  · exact cancelWait_kept c s
  · exact talkTaking_kept _ c s
  · split
    · exact seat_kept (.live _)
    · exact yieldLane_kept _ s
  · exact yieldLane_kept _ s
  · exact .refl s

theorem cancelPress_kept (c : Cause) (s : State) : LawKept s (cancelPress c s) := by
  unfold cancelPress
  split
  · exact cancelAsk_kept c s
  · exact cancelWait_kept c s
  · exact .refl s

theorem priorityPress_kept (s : State) : LawKept s (priorityPress s) := by
  have hheld : LawKept s { s with flags := { s.flags with priorityHeld := true } } := flags_kept _
  unfold priorityPress
  split
  · exact .refl s
  · dsimp only
    split
    · exact hheld.trans (carryOut_kept _ _ _)
    · split
      · exact hheld.trans (seat_kept (.taking _))
      · exact hheld
    · exact (hheld.trans (seat_kept (.live _))).trans (placeHold_kept _)
    · exact hheld

theorem priorityRelease_kept (c : Cause) (s : State) : LawKept s (priorityRelease c s) := by
  have hheld : LawKept s { s with flags := { s.flags with priorityHeld := false } } := flags_kept _
  unfold priorityRelease
  split
  · exact .refl s
  · dsimp only
    split
    · split
      · split
        · exact hheld.trans (setLatch_kept c _)
        · exact hheld.trans (leaveTake_kept _ _)
      · split
        · exact hheld.trans (seat_kept (.taking _))
        · exact hheld
    · split
      · exact hheld.trans (yieldLane_kept _ _)
      · exact (hheld.trans (seat_kept (.live _))).trans (placeHold_kept _)
    · exact hheld

theorem pushNext_kept (target : Nat) (action : BitVec 3) (s : State) : LawKept s (pushNext target action s) := by
  unfold pushNext
  split
  · exact signalRefusal_kept s
  next h => exact pushDirect_kept _ (by simpa using h)

theorem nextPress_kept (s : State) : LawKept s (nextPress s) := by
  unfold nextPress
  split
  · split
    · exact pushNext_kept _ _ s
    · exact signalRefusal_kept s
  · split
    · split
      · exact pushNext_kept _ _ s
      · exact signalRefusal_kept s
    · exact signalRefusal_kept s

theorem seatPress_kept (k : KeyId) (c : Cause) (s : State) : LawKept s (seatPress k c s) := by
  unfold seatPress
  split
  · exact .refl s
  · split
    · exact .refl s
    · split
      · exact flags_kept _
      · exact .refl s
    · cases k with
      | k1 =>
        dsimp only
        split
        · exact setCough_kept s
        · exact talkPress_kept c s
      | k2 =>
        dsimp only
        split
        · exact priorityPress_kept s
        · exact cancelPress_kept c s
      | k3 =>
        dsimp only
        split
        · exact nextPress_kept s
        · exact .refl s

theorem seatRelease_kept (k : KeyId) (c : Cause) (s : State) : LawKept s (seatRelease k c s) := by
  unfold seatRelease
  split
  · exact .refl s
  · split
    · exact .refl s
    · exact .refl s
    · cases k with
      | k1 =>
        dsimp only
        split
        · exact flags_kept _
        · exact .refl s
      | k2 =>
        dsimp only
        split
        · exact priorityRelease_kept c s
        · exact .refl s
      | k3 => exact .refl s

theorem keyReport_kept (k : KeyId) (pressed : Bool) (c : Cause) (s : State) : LawKept s (keyReport k pressed c s) := by
  unfold keyReport
  split
  · exact .refl s
  · split
    · refine LawKept.trans ?_ (seatPress_kept k c _)
      split
      · exact abortTrim_kept _ s
      · exact .refl s
    · exact seatRelease_kept k c s

theorem setKey_kept (k : KeyId) (x : KeyState) (s : State) : LawKept s (setKey k x s) := by
  cases k <;> exact { LawKept.refl s with }

theorem keyLevelChange_kept (k : KeyId) (pin : Bool) (s : State) : LawKept s (keyLevelChange k pin s) := by
  unfold keyLevelChange
  split
  · exact .refl s
  · exact setKey_kept k _ s

theorem debounceExpiry_kept (k : KeyId) (s : State) : LawKept s (debounceExpiry k s) := by
  simp only [debounceExpiry]
  split
  · exact .refl s
  · exact (setKey_kept k _ s).trans (keyReport_kept k _ _ _)

end Sys2Proof.Kept
end

section

/-! The laws at a restart and a tick, at the start and the end of an attempt, at the bits of the line, and at the panel port;
and then at every command and every step. -/

namespace Sys2Proof.Kept

open Sys2Proof Sys2Proof.Machine

-- One proof at a time: the text is compiled in bounded memory.
set_option Elab.async false

variable {s : State}

/-! ## Restart, release of RST_N and ticks -/

theorem profileOrder_inRange (p : BitVec 2) : (profileOrder p).InRange := by
  revert p
  unfold OrderRec.InRange
  decide

theorem profileOf_threshold (p : BitVec 2) : 1 ≤ (profileOf p).threshold ∧ (profileOf p).threshold ≤ 255 := by
  revert p
  decide

/-- Eight FREE lanes, no mute and a tick counter of 0 meet the laws of the view. -/
theorem freeView_laws {t : State} (hl : t.lanes = freeView) (hm : t.mutes = []) (hv : t.viewTicks = 0) :
    t.ViewLaw ∧ t.ViewRanges := by
  have hfree : ∀ i : Fin 8, t.lanes[i] = .free := by
    rw [hl]
    exact fun i => by fin_cases i <;> rfl
  refine ⟨fun i j a hi _ => ?_, fun i => ?_, by omega, by simp [hm], by simp [hm], by simp [hm]⟩
  · rw [hfree i] at hi
    exact absurd hi (by simp [Lane.holder?])
  · rw [hfree i]
    trivial

theorem timer_reset_inRange : SpeechTimer.reset.InRange := by
  unfold SpeechTimer.InRange
  decide

theorem settling_zero {t : State} (h : t.seat = .settling 0) : t.SettlingLaw := fun n hn => by
  obtain rfl : 0 = n := by simpa [h] using hn
  exact Nat.zero_le 3

theorem completeRestart_kept (s : State) : LawKept s (completeRestart s) where
  __ := LawKept.refl s
  view _ := freeView_laws rfl rfl rfl
  window _ := LineLaw.nil (Nat.zero_le _)
  order _ := profileOrder_inRange _
  timer _ _ := timer_reset_inRange
  chair _ _ := rfl
  voice := fun ⟨_, ht, _, _, _, htrim⟩ => ⟨Nat.zero_le _, ht, Nat.zero_le _, Nat.zero_le _, .inl rfl, htrim⟩
  settling _ := settling_zero rfl
  queue _ := sendQ_reset_inRange none
  panel := fun ⟨_, _, hfeed, htrans⟩ => ⟨by simp [completeRestart], by simp [completeRestart], hfeed, fun hhigh =>
    have ⟨hpsel, hshift, hclocked, _⟩ := htrans hhigh
    ⟨hpsel, hshift, hclocked, by simp [completeRestart]⟩⟩

theorem checkRestart_kept (s : State) : LawKept s (checkRestart s) := by
  unfold checkRestart
  split
  · exact completeRestart_kept s
  · exact .refl s

/-- R50: what stays in the queue at a RESTART was there before. -/
theorem dropUnflown_kept (s : State) : LawKept s (dropUnflown s) := by
  refine sq_kept fun ⟨hl, hd, ho, hf, ha, hh, hr⟩ => ⟨?_, ?_, ?_, ?_, ?_, ?_, hr⟩ <;> dsimp only
  · split
    · simp only [List.length_take]
      omega
    · simp
  · split
    · exact fun d hd' => hd d (List.mem_of_mem_take hd')
    · simp
  · split
    · exact ho
    · simp
  · split
    · exact hf
    · simp
  · split
    · exact ha
    · simp
  · split
    · exact hh
    · simp

theorem leaveLine_kept (s : State) : LawKept s (leaveLine s) := by
  unfold leaveLine
  split
  · exact ((endOwnAsk_kept _ s).trans (placeFloor_kept _ _)).trans (enterIdle_kept _)
  · exact (endOwnAsk_kept _ s).trans (enterIdle_kept _)

theorem restartSeat_kept (s : State) : LawKept s (restartSeat s) := by
  unfold restartSeat
  split
  · exact completeRestart_kept s
  · split
    · exact flags_kept _
    · exact leaveLine_kept s
  · exact leaveLine_kept s
  · split
    · exact flags_kept _
    · exact leaveLine_kept s
  · exact yieldLane_kept _ s
  · exact yieldLane_kept _ s
  · split
    · exact .refl s
    · exact (placeFloor_kept _ s).trans (seat_kept (.yielding _ _))
  · exact .refl s

theorem restart_kept (s : State) : LawKept s (restart s) :=
  (((abortTrim_kept _ s).trans (dropUnflown_kept _)).trans (flags_kept _)).trans (restartSeat_kept _)

theorem releaseReset_kept (a : AddrBits) (r : Role) (p : BitVec 2) (s : State) : LawKept s (releaseReset a r p s) where
  __ := LawKept.refl s
  view _ := freeView_laws rfl rfl rfl
  window _ := LineLaw.nil (Nat.zero_le _)
  order _ := profileOrder_inRange _
  timer _ _ := timer_reset_inRange
  chair _ _ := rfl
  voice _ := ⟨Nat.zero_le _, profileOf_threshold p, Nat.zero_le _, Nat.zero_le _, .inl rfl, by simp [releaseReset]⟩
  settling _ := by
    intro n hn
    simp only [releaseReset] at hn
    split at hn
    · exact absurd hn (by simp)
    · injection hn
      omega
  queue _ := sendQ_reset_inRange none
  line _ := by simp [LineIf.InRange, releaseReset, LineIf.reset]
  panel _ := by simp [PanelPart, PanelPort.TransactionLaw, releaseReset, PanelPort.reset]

theorem assertReset_kept (s : State) : LawKept s (assertReset s) where
  __ := LawKept.refl s
  panel := fun ⟨hlen, hover, hfeed, _⟩ => ⟨hlen, hover, hfeed, fun h => absurd h (by simp)⟩

theorem endSettling_kept (s : State) : LawKept s (endSettling s) := by
  have hplace : ∀ u : State, LawKept u (if s.isChair ∧ s.order.origin = .profile then placeOrder .fromRecord u else u) :=
    fun u => by
      split
      · exact placeOrder_kept _ u
      · exact .refl u
  simp only [endSettling]
  split
  · exact (((seat_kept .idle).trans (hplace _)).trans (flags_kept _)).trans (talkPress_kept _ _)
  · exact ((seat_kept .idle).trans (hplace _)).trans (flags_kept _)

theorem tickSettling_kept (s : State) : LawKept s (tickSettling s) := by
  unfold tickSettling
  split
  next n _ =>
    split
    next hlow =>
      refine { LawKept.refl s with settling := fun _ m hm => ?_ }
      obtain rfl : n + 1 = m := by simpa using hm
      omega
    next => exact endSettling_kept s
  next => exact .refl s

theorem repeatCount_kept {n : Nat} (hn : n ≤ 3) : LawKept s { s with sq := { s.sq with repeatCount := n } } :=
  sq_kept fun ⟨hl, hd, ho, hf, ha, hh, _⟩ => ⟨hl, hd, ho, hf, ha, hh, hn⟩

theorem tickRepeat_kept (s : State) : LawKept s (tickRepeat s) := by
  unfold tickRepeat
  split
  · split
    · exact repeatCount_kept (by omega)
    · exact (repeatCount_kept (Nat.zero_le _)).trans (placeRepeat_kept _)
  · exact .refl s

theorem viewTick_kept (s : State) : LawKept s (viewTick s) :=
  (((((viewTickView_kept s).trans (viewTickLine_kept _)).trans (tickRepeat_kept _)).trans (placeHold_kept _)).trans
    (tickSettling_kept _)).trans (evaluate_kept _)

theorem settlingEnd_kept (s : State) : LawKept s (settlingEnd s) := by
  unfold settlingEnd
  split
  · split
    · exact endSettling_kept s
    · exact .refl s
  · exact .refl s

theorem orderRepeat_kept (s : State) : LawKept s (orderRepeat s) := by
  unfold orderRepeat
  split
  · exact tickRepeat_kept s
  · exact .refl s

theorem laneLapse_kept (i : Fin 8) (s : State) : LawKept s (laneLapse i s) := by
  unfold laneLapse
  split
  · split
    · refine LawKept.trans (setLanes_kept (mapLanes_law fun j hj => ?_)) (evaluate_kept _)
      split
      · exact ⟨trivial, by simp [Lane.holder?]⟩
      · exact ⟨hj, fun _ => id⟩
    · exact .refl s
  · exact .refl s

theorem muteSourceLapse_kept (chair : Nat) (s : State) : LawKept s (muteSourceLapse chair s) := by
  unfold muteSourceLapse
  split
  · exact setMutes_kept (muteLeave_law chair)
  · exact .refl s

theorem lineEntryLapse_kept (asker : Nat) (s : State) : LawKept s (lineEntryLapse asker s) := by
  unfold lineEntryLapse
  split
  · exact (setWindow_kept fun h => h.sublist List.filter_sublist).trans (evaluate_kept _)
  · exact .refl s

/-! ## A start boundary -/

theorem restateFloor_kept (s : State) : LawKept s (restateFloor s) := by
  unfold restateFloor
  split
  · split
    · exact restateTake_kept _ s
    · exact removeFloor_kept s
  · split
    · exact (((removeFloor_kept s).trans (refuseOwnAsk_kept _)).trans (enterIdle_kept _)).trans (refuse_kept _ _)
    · exact .refl s
  · exact .refl s

theorem restateRefresh_kept (s : State) : LawKept s (restateRefresh s) := by
  unfold restateRefresh
  split
  · exact .refl s
  · exact sq_kept fun ⟨hl, hd, ho, hf, _, hh, hr⟩ => ⟨hl, hd, ho, hf, by simp, hh, hr⟩

theorem restateHold_kept (s : State) : LawKept s (restateHold s) := by
  unfold restateHold
  split
  · exact .refl s
  · exact sq_kept fun ⟨hl, hd, ho, hf, ha, _, hr⟩ => ⟨hl, hd, ho, hf, ha, by simp, hr⟩

theorem restateAll_kept (s : State) : LawKept s (restateAll s) :=
  ((restateFloor_kept s).trans (restateRefresh_kept _)).trans (restateHold_kept _)

theorem launch_kept (fl : Flight) (s : State) : LawKept s (launch fl s) := { LawKept.refl s with }

theorem offerFrame_kept (s : State) : LawKept s (offerFrame s) := by
  have hall : LawKept s (restateAll { s with li := { s.li with idleCount := 10, dominantRun := 0 } }) :=
    (li_kept fun ⟨_, _, hb⟩ => ⟨le_rfl, Nat.zero_le _, hb⟩).trans (restateAll_kept _)
  unfold offerFrame
  dsimp only
  split
  · exact hall.trans (launch_kept _ _)
  · exact hall

theorem startBoundary_kept (s : State) : LawKept s (startBoundary s) := by
  unfold startBoundary
  split
  · exact (offerFrame_kept s).trans (checkRestart_kept _)
  · exact .refl s

/-! ## The end of an attempt -/

theorem lineIdle_kept (s : State) : LawKept s (lineIdle s) := li_kept fun ⟨_, hd, hb⟩ => ⟨Nat.zero_le _, hd, hb⟩

theorem slotRecessive_kept (s : State) : LawKept s (slotRecessive s) := li_kept fun ⟨hi, _, hb⟩ => ⟨hi, Nat.zero_le _, hb⟩

/-- R40: what was held for a slot takes it with count 0, so no count is greater than before. -/
theorem takeOut_kept (slot : SlotId) (s : State) : LawKept s (takeOut slot s) := by
  refine sq_kept fun ⟨hl, hd, ho, hf, ha, hh, hr⟩ => ?_
  cases slot with
  | order => exact ⟨hl, hd, by simp, hf, ha, hh, hr⟩
  | direct =>
    refine ⟨?_, fun d hd' => hd d (List.mem_of_mem_drop hd'), ho, hf, ha, hh, hr⟩
    simp only [List.length_drop]
    omega
  | floor => exact ⟨hl, hd, ho, by simp, ha, hh, hr⟩
  | askref =>
    refine ⟨hl, hd, ho, hf, fun n hn => ?_, hh, hr⟩
    simp only at hn
    split at hn <;> simp at hn
    omega
  | hold =>
    refine ⟨hl, hd, ho, hf, ha, fun n hn => ?_, hr⟩
    simp only at hn
    split at hn <;> simp at hn
    omega

/-- R42: a frame that stays after an attempt that counts n, where its count leaves room for n. -/
theorem keepPending_kept {slot : SlotId} {n : Nat} (hn : s.sq.InRange → s.flightCount slot + n ≤ 3) :
    LawKept s (keepPending slot n s) := by
  refine sq_kept fun hin => ?_
  have hcount := hn hin
  obtain ⟨hl, hd, ho, hf, ha, hh, hr⟩ := hin
  cases slot with
  | order =>
    dsimp only
    split
    · exact ⟨hl, hd, by simp, hf, ha, hh, hr⟩
    · refine ⟨hl, hd, fun o hso => ?_, hf, ha, hh, hr⟩
      obtain ⟨x, hx, rfl⟩ := Option.map_eq_some_iff.mp hso
      simpa [State.flightCount, hx, Slotted.bump] using hcount
  | direct =>
    dsimp only
    split
    next d rest hcons =>
      simp only [State.flightCount, hcons, List.head?_cons, Option.map_some, Option.getD_some] at hcount
      simp only [hcons, List.length_cons, List.mem_cons, forall_eq_or_imp] at hl hd
      refine ⟨by simpa using hl, ?_, ho, hf, ha, hh, hr⟩
      simp only [List.mem_cons, forall_eq_or_imp]
      exact ⟨hcount, hd.2⟩
    next => exact ⟨hl, hd, ho, hf, ha, hh, hr⟩
  | floor =>
    dsimp only
    split
    · exact ⟨hl, hd, ho, by simp, ha, hh, hr⟩
    · refine ⟨hl, hd, ho, fun f hsf => ?_, ha, hh, hr⟩
      obtain ⟨x, hx, rfl⟩ := Option.map_eq_some_iff.mp hsf
      simpa [State.flightCount, hx, Slotted.bump] using hcount
  | askref =>
    refine ⟨hl, hd, ho, hf, fun m hm => ?_, hh, hr⟩
    obtain ⟨x, hx, rfl⟩ := Option.map_eq_some_iff.mp hm
    have hslot : s.sq.askref = some x := hx
    simpa [State.flightCount, hslot] using hcount
  | hold =>
    refine ⟨hl, hd, ho, hf, ha, fun m hm => ?_, hr⟩
    obtain ⟨x, hx, rfl⟩ := Option.map_eq_some_iff.mp hm
    have hslot : s.sq.hold = some x := hx
    simpa [State.flightCount, hslot] using hcount

theorem flightCount_le {slot : SlotId} (h : s.sq.InRange) : s.flightCount slot ≤ 3 := by
  obtain ⟨-, hd, ho, hf, ha, hh, -⟩ := h
  cases slot with
  | order =>
    simp only [State.flightCount]
    cases hx : s.sq.order with
    | none => simp
    | some o => exact ho o hx
  | direct =>
    simp only [State.flightCount]
    cases hx : s.sq.direct with
    | nil => simp
    | cons d rest => exact hd d (by simp [hx])
  | floor =>
    simp only [State.flightCount]
    cases hx : s.sq.floor with
    | none => simp
    | some f => exact hf f hx
  | askref => exact getD_le_three ha
  | hold => exact getD_le_three hh

theorem foreignArrival_kept (f : Frame) (s : State) : LawKept s (foreignArrival f s) := by
  have hfeed := offerFeed_kept false f s
  unfold foreignArrival
  dsimp only
  split
  · split
    · exact hfeed.trans (addressClash_kept _)
    · exact hfeed
  next g hg =>
    have hfloor := hfeed.trans (floorArrival_kept false (s.clashes false f) (sound_of_acting hg) _)
    split
    · exact hfloor.trans (addressClash_kept _)
    · exact (hfloor.trans (seatArrival_kept _ _ _)).trans (signals_kept _ _)

theorem arrival_kept (f : Frame) (s : State) : LawKept s (arrival f s) := by
  unfold arrival
  split
  · exact (((lineIdle_kept s).trans (slotRecessive_kept _)).trans (foreignArrival_kept f _)).trans (checkRestart_kept _)
  · exact .refl s

theorem syncMuting_kept (h : OwnLane) (s : State) : LawKept s (syncMuting h s) := by
  unfold syncMuting
  split
  · exact (seat_kept (.live _)).trans (placeHold_kept _)
  · exact .refl s

theorem releaseAtEntry_kept (h : OwnLane) (s : State) : LawKept s (releaseAtEntry h s) := by
  unfold releaseAtEntry
  split
  · exact voiceRelease_kept s
  · exact .refl s

theorem enterLive_kept (h : OwnLane) (s : State) : LawKept s (enterLive h s) :=
  (((((seat_kept (.live h)).trans (post_kept _ _ _)).trans (speechStart_kept _)).trans (gateSpeech_kept _ _)).trans
    (syncMuting_kept h _)).trans (releaseAtEntry_kept h _)

theorem passThroughLive_kept (h : OwnLane) (c : Cause) (s : State) : LawKept s (passThroughLive h c s) :=
  (((flags_kept _).trans (speechEnd_kept _)).trans (placeFloor_kept _ _)).trans (seat_kept (.yielding h _))

theorem takeCompleted_kept (lane : Fin 8) (muting : Bool) (s : State) : LawKept s (takeCompleted lane muting s) := by
  unfold takeCompleted
  split
  · dsimp only
    split
    · exact passThroughLive_kept _ _ s
    · exact enterLive_kept _ s
  · exact .refl s

theorem askCompleted_kept (ticket : Nat) (s : State) : LawKept s (askCompleted ticket s) := by
  unfold askCompleted
  split
  · split
    · exact (((flags_kept _).trans (endOwnAsk_kept _ _)).trans (placeFloor_kept _ _)).trans (enterIdle_kept _)
    · exact ((askLive_kept ticket s).trans (seat_kept .waiting)).trans (evaluate_kept _)
  · exact .refl s

theorem yieldCompleted_kept (s : State) : LawKept s (yieldCompleted s) := by
  unfold yieldCompleted
  split
  · exact enterIdle_kept s
  · exact .refl s

theorem ownerCompleted_kept (f : Frame) (s : State) : LawKept s (ownerCompleted f s) := by
  unfold ownerCompleted
  split
  · exact takeCompleted_kept _ _ s
  · split
    · exact .refl s
    · exact askCompleted_kept _ s
  · exact yieldCompleted_kept s
  · exact .refl s

theorem ownArrival_kept (f : Frame) (s : State) : LawKept s (ownArrival f s) := by
  have hfeed := offerFeed_kept true f s
  unfold ownArrival
  dsimp only
  split
  · exact hfeed.trans (ownerCompleted_kept f _)
  next g hg =>
    exact (((hfeed.trans (floorArrival_kept true false (sound_of_acting hg) _)).trans (seatArrival_kept _ _ _)).trans
      (ownerCompleted_kept g _)).trans (signals_kept _ _)

theorem orderSent_kept (slot : SlotId) (s : State) : LawKept s (orderSent slot s) := by
  unfold orderSent
  split
  · exact repeatCount_kept (Nat.zero_le _)
  · exact .refl s

theorem attemptCompleted_kept (s : State) : LawKept s (attemptCompleted s) := by
  unfold attemptCompleted
  split
  · split
    · exact .refl s
    · exact (((((lineIdle_kept s).trans (slotRecessive_kept _)).trans (takeOut_kept _ _)).trans (orderSent_kept _ _)).trans
        (ownArrival_kept _ _)).trans (checkRestart_kept _)
  · exact .refl s

theorem cancelledAsk_kept (c : Cause) (s : State) : LawKept s (cancelledAsk c s) :=
  (((flags_kept _).trans (removeFloor_kept _)).trans (endOwnAsk_kept _ _)).trans (enterIdle_kept _)

theorem cancelledTake_kept (c : Cause) (s : State) : LawKept s (cancelledTake c s) := by
  have hremove : LawKept s (removeFloor { s with flags := { s.flags with cancelLatch := none } }) :=
    (flags_kept _).trans (removeFloor_kept _)
  unfold cancelledTake
  dsimp only
  split
  · split
    · exact hremove.trans (leaveLine_kept _)
    · exact hremove.trans (leaveTake_kept _ _)
  · exact hremove

theorem yieldAgain_kept (s : State) : LawKept s (yieldAgain s) := by
  unfold yieldAgain
  split
  · exact (placeFloor_kept _ s).trans (seat_kept (.yielding _ _))
  · exact .refl s

theorem attemptStays_kept {fl : Flight} {n : Nat} (hn : s.sq.InRange → s.flightCount fl.slot + n ≤ 3) :
    LawKept s (attemptStays fl n s) := by
  have hstay : LawKept s
      (if s.flags.restartPending ∧ ¬ fl.isRestartFrame then takeOut fl.slot s else keepPending fl.slot n s) := by
    split
    · exact takeOut_kept _ s
    · exact keepPending_kept hn
  unfold attemptStays
  dsimp only
  generalize (if s.flags.restartPending ∧ ¬ fl.isRestartFrame then takeOut fl.slot s else keepPending fl.slot n s) = t
    at hstay ⊢
  split
  · split
    · exact hstay.trans (cancelledAsk_kept _ _)
    · exact hstay.trans (cancelledTake_kept _ _)
    · split
      · exact hstay.trans (yieldAgain_kept _)
      · exact hstay
    · exact hstay
  · exact hstay

theorem takeDropped_kept (s : State) : LawKept s (takeDropped s) := by
  have hrefuse := (enterIdle_kept s).trans (refuse_kept .send _)
  unfold takeDropped
  split
  · split
    · exact seat_kept .waiting
    · exact seat_kept .waiting
    · split
      · exact askNew_kept s
      · exact hrefuse
    · exact hrefuse
  · exact .refl s

theorem ownerDropped_kept (fl : Flight) (s : State) : LawKept s (ownerDropped fl s) := by
  unfold ownerDropped
  split
  · split
    · exact cancelledAsk_kept _ s
    · exact cancelledTake_kept _ s
    · split
      · exact ((refuseOwnAsk_kept s).trans (enterIdle_kept _)).trans (refuse_kept _ _)
      · exact .refl s
    · exact takeDropped_kept s
    · split
      · exact yieldAgain_kept s
      · split
        · exact enterIdle_kept s
        · exact .refl s
    · exact .refl s
  · exact .refl s

theorem attemptDropped_kept (fl : Flight) (s : State) : LawKept s (attemptDropped fl s) :=
  ((takeOut_kept _ s).trans (post_kept _ _ _)).trans (ownerDropped_kept _ _)

/-- R42: an attempt that counts is the fourth, or leaves a count of 3 at most. -/
theorem attemptObjected_kept (s : State) : LawKept s (attemptObjected s) := by
  unfold attemptObjected
  split
  next fl _ =>
    refine LawKept.trans ?_ (checkRestart_kept _)
    split
    · exact (lineIdle_kept s).trans (attemptDropped_kept _ _)
    next hlow =>
      refine (lineIdle_kept s).trans (attemptStays_kept fun _ => ?_)
      have hsame : (lineIdle s).flightCount fl.slot = s.flightCount fl.slot := rfl
      omega
  next => exact .refl s

/-- An attempt that counts nothing. -/
theorem attemptUncounted_kept (fl : Flight) (s : State) : LawKept s (attemptStays fl 0 s) :=
  attemptStays_kept flightCount_le

theorem attemptLost_kept (s : State) : LawKept s (attemptLost s) := by
  unfold attemptLost
  split
  · split
    · exact (LawKept.trans (li_kept fun ⟨_, hd, hb⟩ => ⟨Nat.zero_le _, hd, hb⟩) (attemptUncounted_kept _ _)).trans
        (checkRestart_kept _)
    · exact .refl s
  · exact .refl s

theorem discardFrame_kept (cause : DiscardCause) (s : State) : LawKept s (discardFrame cause s) := by
  unfold discardFrame
  dsimp only
  split
  · exact (lineIdle_kept s).trans (li_kept fun ⟨hi, hd, _⟩ => ⟨hi, hd, le_rfl⟩)
  · exact lineIdle_kept s

theorem frameDiscard_kept (cause : DiscardCause) (s : State) : LawKept s (frameDiscard cause s) := by
  unfold frameDiscard
  split
  · exact discardFrame_kept cause s
  · exact .refl s

theorem burstEnd_kept (s : State) : LawKept s (burstEnd s) := li_kept fun ⟨hi, hd, _⟩ => ⟨hi, hd, Nat.zero_le _⟩

theorem enterStuck_kept (s : State) : LawKept s (enterStuck s) := by
  have hstuck : LawKept s (post .li .lineStuck
      { lineIdle s with li := { (lineIdle s).li with status := .stuck, dominantRun := 64, burstLeft := 0 } }) :=
    { LawKept.refl s with line := fun _ => ⟨Nat.zero_le _, le_rfl, Nat.zero_le _⟩ }
  unfold enterStuck
  dsimp only
  split
  · exact (hstuck.trans (attemptUncounted_kept _ _)).trans (checkRestart_kept _)
  · exact hstuck

theorem lineStuck_kept (s : State) : LawKept s (lineStuck s) := by
  unfold lineStuck
  split
  · exact .refl s
  · exact enterStuck_kept s

theorem lineClear_kept (s : State) : LawKept s (lineClear s) := by
  unfold lineClear
  split
  · exact ((LawKept.trans (li_kept fun ⟨_, _, hb⟩ => ⟨le_rfl, Nat.zero_le _, hb⟩) (post_kept _ _ _)).trans
      (offerFrame_kept _)).trans (checkRestart_kept _)
  · exact .refl s

end Sys2Proof.Kept
end

section

/-! The laws at the bits of the line and at the panel port, and then at every command and every step. -/

namespace Sys2Proof.Kept

open Sys2Proof Sys2Proof.Machine

-- One proof at a time: the text is compiled in bounded memory.
set_option Elab.async false

variable {s : State}

/-! ## Bits of the line -/

theorem pushBit_kept (v : Bool) (s : State) : LawKept s (pushBit v s) := li_kept id

theorem countRun_kept (v : Bool) (s : State) : LawKept s (countRun v s) := li_kept id

theorem enterSlot_kept (s : State) : LawKept s (enterSlot s) := li_kept id

theorem receiveBit_kept (v : Bool) (s : State) : LawKept s (receiveBit v s) := by
  have hread := (pushBit_kept v s).trans (countRun_kept v _)
  unfold receiveBit
  split
  · split
    · exact discardFrame_kept _ s
    · dsimp only
      split
      · exact (countRun_kept v s).trans (enterSlot_kept _)
      · exact countRun_kept v s
  · dsimp only
    split
    · exact hread.trans (discardFrame_kept _ _)
    · split
      · exact hread.trans (enterSlot_kept _)
      · exact hread

theorem receiveLead_kept (v : Bool) (s : State) : LawKept s (receiveLead v s) := by
  have hlead : LawKept s (countRun v { s with li := { s.li with leadBits := s.li.leadBits + 1 } }) := li_kept id
  unfold receiveLead
  split
  · dsimp only
    split
    · exact hlead.trans (li_kept id)
    · exact hlead
  · exact discardFrame_kept _ s

theorem sendOn_kept (rest : List TxBit) (s : State) : LawKept s (sendOn rest s) := by
  unfold sendOn
  dsimp only
  split
  · exact li_kept id
  · split
    · exact li_kept id
    · split <;> exact li_kept id

theorem busyLine_kept (v : Bool) (s : State) : LawKept s (busyLine v s) := by
  unfold busyLine
  split
  · exact .refl s
  · exact li_kept fun ⟨_, hd, hb⟩ => ⟨Nat.zero_le _, hd, hb⟩

theorem bitFault_kept (s : State) : LawKept s { s with li := { s.li with bitFault := true } } := li_kept id

theorem sendBit_kept (v : Bool) (b : TxBit) (rest : List TxBit) (s : State) : LawKept s (sendBit v b rest s) := by
  have hbuffer : LawKept s (if b.part.buffered then pushBit v (busyLine v s) else busyLine v s) := by
    split
    · exact (busyLine_kept v s).trans (pushBit_kept v _)
    · exact busyLine_kept v s
  have hcount := hbuffer.trans (countRun_kept v _)
  unfold sendBit
  split
  · exact (busyLine_kept v s).trans (sendOn_kept _ _)
  · dsimp only
    split
    · exact hcount.trans (sendOn_kept _ _)
    · split
      · exact hcount.trans (attemptLost_kept _)
      · exact (hcount.trans (bitFault_kept _)).trans (sendOn_kept _ _)

theorem readSlot_kept (v : Bool) (s : State) : LawKept s (readSlot v s) := by
  unfold readSlot
  split
  · split
    · exact attemptCompleted_kept s
    · exact attemptObjected_kept s
  · split
    · exact discardFrame_kept _ s
    · split
      · split
        · exact arrival_kept _ s
        · exact discardFrame_kept _ s
      · exact discardFrame_kept _ s

theorem idleBit_kept (v : Bool) (s : State) : LawKept s (idleBit v s) := by
  unfold idleBit
  split
  · exact li_kept fun ⟨_, hd, hb⟩ => ⟨Nat.zero_le _, hd, by simp only; omega⟩
  · split
    · have hcount : LawKept s { s with li := { s.li with idleCount := min 10 (s.li.idleCount + 1) } } :=
        li_kept fun ⟨_, hd, hb⟩ => ⟨min_le_left _ _, hd, hb⟩
      dsimp only
      split
      · exact hcount.trans (startBoundary_kept _)
      · exact hcount
    · split <;> exact li_kept fun ⟨_, hd, hb⟩ => ⟨Nat.zero_le _, hd, hb⟩

theorem stuckBit_kept (v : Bool) (s : State) : LawKept s (stuckBit v s) := by
  unfold stuckBit
  split
  · split
    next hlow => exact li_kept fun ⟨_, hd, hb⟩ => ⟨hlow.le, hd, hb⟩
    next => exact lineClear_kept s
  · exact li_kept fun ⟨_, hd, hb⟩ => ⟨Nat.zero_le _, hd, hb⟩

theorem countDominant_le (v : Bool) (n : Nat) : countDominant v n ≤ 64 := by
  unfold countDominant
  split
  · exact Nat.zero_le _
  · exact min_le_left _ _

theorem readBit_kept (v : Bool) (s : State) : LawKept s (readBit v s) := by
  have hcount : LawKept s { s with li := { s.li with dominantRun := countDominant v s.li.dominantRun } } :=
    li_kept fun ⟨hi, _, hb⟩ => ⟨hi, countDominant_le _ _, hb⟩
  have hdriven : ∀ t, LawKept s t → LawKept s
      (match s.li.tx with | b :: rest => sendBit v b rest t | [] => receiveLead v t) := fun t ht => by
    split
    · exact ht.trans (sendBit_kept v _ _ _)
    · exact ht.trans (receiveLead_kept v _)
  unfold readBit
  dsimp only
  split
  · exact hcount.trans (stuckBit_kept v _)
  · split
    · exact hcount.trans (enterStuck_kept _)
    · split
      · exact hcount.trans (idleBit_kept v _)
      · exact hdriven _ hcount
      · exact hdriven _ hcount
      · exact hdriven _ hcount
      · exact hcount.trans (receiveBit_kept v _)
      · exact hcount.trans (readSlot_kept v _)
      · exact hcount

theorem lineBit_kept (others : Bool) (s : State) : LawKept s (lineBit others s) := by
  unfold lineBit
  split
  · exact .refl s
  · exact (readBit_kept _ s).trans (flush_kept _)

/-! ## The panel port -/

/-- A change of the port that leaves its queues: the law of the transaction is what is to be shown. -/
theorem port_kept {p : PanelPort} (he : p.events = s.pp.events := by rfl) (hf : p.feed = s.pp.feed := by rfl)
    (ht : s.pp.TransactionLaw → p.TransactionLaw) : LawKept s { s with pp := p } :=
  pp_kept fun ⟨hlen, hover, hfeed, htrans⟩ => ⟨he ▸ hlen, he ▸ hover, hf ▸ hfeed, fun hhigh => ht (htrans hhigh)⟩

/-- A new transaction has clocked nothing out and reads no entry. -/
theorem answer_kept (command : Byte) (status : PanelStatus) (response : List Byte) (last : LastByte) (s : State) :
    LawKept s (answer command status response last s) :=
  port_kept (ht := fun _ => ⟨by simp, .inl rfl, by simp, by simp⟩)

theorem command_kept {code : Byte} {inListen inSettling : Bool} {check : PanelStatus} {effect : State → State}
    (h : check = .ok → ∀ u : State, u.sq = s.sq → LawKept u (effect u)) :
    LawKept s (command code inListen inSettling check effect s) := by
  unfold command
  split
  · exact answer_kept _ _ _ _ s
  · split
    next hok => exact (answer_kept _ _ _ _ s).trans (h hok _ rfl)
    next => exact answer_kept _ _ _ _ s

theorem readStatus_kept (s : State) : LawKept s (readStatus s) :=
  (answer_kept _ _ _ _ s).trans (port_kept (ht := id))

/-- R186: the entry at the head is marked by a transaction that will remove it. -/
theorem takeEvent_kept (s : State) : LawKept s (takeEvent s) := by
  refine port_kept (ht := fun _ => ⟨by simp [answer], .inl rfl, by simp [answer], fun hreading => ?_⟩)
  have hne : s.pp.events.isEmpty = false := by simpa using hreading
  refine ⟨by simpa [answer] using hne, _, rfl, ?_⟩
  simp [hne]

theorem panelKey_kept (key action : Byte) (s : State) : LawKept s (panelKey key action s) := by
  unfold panelKey
  split
  · exact command_kept fun _ u _ => keyReport_kept _ _ _ u
  · exact command_kept fun _ u _ => .refl u

theorem panelRestart_kept (s : State) : LawKept s (panelRestart s) :=
  command_kept fun _ u _ => (restart_kept u).trans (checkRestart_kept _)

theorem panelFeed_kept (arg : Byte) (s : State) : LawKept s (panelFeed arg s) :=
  command_kept fun _ _ _ => port_kept (ht := id)

theorem fifoFull_of_directCheck {target : BitVec 16} {action : Byte} {argument : BitVec 16}
    (h : s.directCheck target action argument = .ok) : s.fifoFull = false := by
  unfold State.directCheck at h
  split_ifs at h with _ _ _ _ _ hfull
  simpa using hfull

theorem panelSendDirect_kept (target : BitVec 16) (action : Byte) (argument : BitVec 16) (s : State) :
    LawKept s (panelSendDirect target action argument s) :=
  command_kept fun hok u hu => pushDirect_kept _ (by
    have hfull := fifoFull_of_directCheck hok
    simpa only [State.fifoFull, hu] using hfull)

theorem unknownCommand_kept (code : Byte) (s : State) : LawKept s (unknownCommand code s) := by
  unfold unknownCommand
  split
  · exact .refl s
  · exact answer_kept _ _ _ _ s

theorem deselect_kept (s : State) : LawKept s (deselect s) := port_kept (ht := fun _ => by simp [PanelPort.TransactionLaw])

theorem pselFall_kept (s : State) : LawKept s (pselFall s) :=
  (deselect_kept s).trans (port_kept (ht := fun _ => by simp [PanelPort.TransactionLaw, deselect]))

/-- R179: once the last byte is out, the transaction removes nothing more; an entry that is being read has to be another's. -/
theorem lastByteOut_law {p : PanelPort} {last : LastByte} (h : p.TransactionLaw)
    (hlast : (match p.transaction with | some t => t.lastByte | none => .nothing) = last) (hne : last ≠ .removeEvent) :
    PanelPort.TransactionLaw
      { p with transaction := p.transaction.map fun t => { t with lastByte := .nothing, clocked := t.length } } := by
  obtain ⟨hpsel, hshift, -, hreading⟩ := h
  refine ⟨fun hp => ⟨(hpsel hp).1, by simp [(hpsel hp).2]⟩, hshift.imp_right fun ht => by simp [ht], ?_, fun hread => ?_⟩
  · simp only [Option.map_eq_some_iff]
    rintro _ ⟨t, -, rfl⟩
    exact le_rfl
  · obtain ⟨-, t, ht, hrem⟩ := hreading hread
    rw [ht] at hlast
    exact absurd (hlast.symm.trans hrem) hne

theorem clearOverflow_kept (s : State) : LawKept s (clearOverflow s) := by
  unfold clearOverflow
  split
  next hlast =>
    dsimp only
    split <;> exact port_kept (ht := fun h => lastByteOut_law h hlast (by decide))
  next => exact .refl s

theorem removeFeed_kept (s : State) : LawKept s (removeFeed s) := by
  unfold removeFeed
  split
  next hlast =>
    refine pp_kept fun ⟨hlen, hover, hfeed, htrans⟩ =>
      ⟨hlen, hover, ?_, fun hhigh => lastByteOut_law (htrans hhigh) hlast (by decide)⟩
    simp only [lastByteOut, List.length_drop]
    omega
  next => exact .refl s

theorem removeEvent_kept (s : State) : LawKept s (removeEvent s) := by
  unfold removeEvent
  split
  next hlast =>
    have hdone : ∀ events : List EventRec, s.pp.TransactionLaw →
        PanelPort.TransactionLaw { (lastByteOut s).pp with events := events, reading := false } :=
      fun events ⟨hpsel, hshift, _, _⟩ =>
        ⟨fun hp => ⟨(hpsel hp).1, by simp [lastByteOut, (hpsel hp).2]⟩,
          hshift.imp_right fun ht => by simp [lastByteOut, ht], by
            simp only [lastByteOut, Option.map_eq_some_iff]
            rintro _ ⟨t, -, rfl⟩
            exact le_rfl, by simp⟩
    dsimp only
    split
    · refine pp_kept fun ⟨hlen, hover, hfeed, htrans⟩ => ⟨?_, ?_, hfeed, fun hhigh => hdone _ (htrans hhigh)⟩
      · simp only [lastByteOut, List.length_drop]
        omega
      · refine fun r hr => hover r ?_
        rw [List.drop_one] at hr
        have hcomm : s.pp.events.tail.dropLast = s.pp.events.dropLast.tail := by
          cases s.pp.events with
          | nil => rfl
          | cons x xs => cases xs <;> rfl
        exact List.mem_of_mem_tail (hcomm ▸ hr)
    next hread =>
      have hfalse : s.pp.reading = false := by simpa using hread
      refine port_kept (ht := fun h => ?_)
      have hlaw := hdone s.pp.events h
      rwa [← hfalse] at hlaw
  next => exact .refl s

/-! ## Commands -/

/-- An outcome of s is a next state that keeps the laws, with no posting left where none was. -/
def Completes (s : State) (o : Host.Outcome State Fault Refusal) : Prop :=
  ∃ t, o = .next t ∧ LawKept s t ∧ (s.outbox = [] → t.outbox = [])

theorem event_completes {f : State → State} (h : LawKept s (f s)) : Completes s (event f s) := by
  refine ⟨_, rfl, ?_⟩
  split
  · exact ⟨.refl s, id⟩
  · exact ⟨h.trans (flush_kept _), fun _ => flush_outbox _⟩

/-- A change that posts nothing. -/
theorem next_completes {t : State} (h : LawKept s t) (ho : t.outbox = s.outbox) : Completes s (.next t) :=
  ⟨t, rfl, h, fun hs => ho.trans hs⟩

theorem pinResetAssert_completes (s : State) : Completes s (execPinResetAssert s) := by
  refine next_completes ?_ ?_ <;> split
  · exact .refl s
  · exact assertReset_kept s
  · rfl
  · rfl

theorem pinResetRelease_completes (a : AddrBits) (r : Role) (p : BitVec 2) (s : State) :
    Completes s (execPinResetRelease a r p s) := by
  refine ⟨_, rfl, ?_, ?_⟩ <;> split
  · exact releaseReset_kept a r p s
  · exact .refl s
  · exact fun _ => rfl
  · exact id

theorem setKey_outbox (k : KeyId) (x : KeyState) (s : State) : (setKey k x s).outbox = s.outbox := by
  cases k <;> rfl

theorem keyLevelChange_completes (k : KeyId) (pressed : Bool) (s : State) :
    Completes s (execKeyLevelChange k pressed s) := by
  refine next_completes ?_ ?_ <;> split
  · exact setKey_kept k _ s
  · exact keyLevelChange_kept k pressed s
  · exact setKey_outbox k _ s
  · unfold keyLevelChange
    split
    · rfl
    · exact setKey_outbox k _ s

/-- Every command completes, and keeps every law. -/
theorem exec_completes (c : Instr) (s : State) : Completes s (exec c s) :=
  match c with
  | .pinResetAssert => pinResetAssert_completes s
  | .pinResetRelease a r p => pinResetRelease_completes a r p s
  | .startBoundary => event_completes (startBoundary_kept s)
  | .frameDiscard cause => event_completes (frameDiscard_kept cause s)
  | .objectionBurstEnd => event_completes (burstEnd_kept s)
  | .attemptLost => event_completes (attemptLost_kept s)
  | .attemptCompleted => event_completes (attemptCompleted_kept s)
  | .attemptObjected => event_completes (attemptObjected_kept s)
  | .lineStuck => event_completes (lineStuck_kept s)
  | .lineClear => event_completes (lineClear_kept s)
  | .orderArrival .. => event_completes (arrival_kept _ s)
  | .directCutArrival .. => event_completes (arrival_kept _ s)
  | .directGrantArrival .. => event_completes (arrival_kept _ s)
  | .directExtendArrival .. => event_completes (arrival_kept _ s)
  | .directDropAskArrival .. => event_completes (arrival_kept _ s)
  | .yieldArrival .. => event_completes (arrival_kept _ s)
  | .takeArrival .. => event_completes (arrival_kept _ s)
  | .withdrawArrival .. => event_completes (arrival_kept _ s)
  | .askArrival .. => event_completes (arrival_kept _ s)
  | .holdArrival .. => event_completes (arrival_kept _ s)
  | .viewTick => event_completes (viewTick_kept s)
  | .laneLapse _ => event_completes (laneLapse_kept _ s)
  | .muteSourceLapse _ => event_completes (muteSourceLapse_kept _ s)
  | .lineEntryLapse _ => event_completes (lineEntryLapse_kept _ s)
  | .settlingEnd => event_completes (settlingEnd_kept s)
  | .orderRepeat => event_completes (orderRepeat_kept s)
  | .speechTick => event_completes (speechTick_kept s)
  | .speechExpiry => event_completes (speechExpiry_kept s)
  | .levelSample x => event_completes (levelSample_kept x s)
  | .attackCompletion => event_completes (attackCompletion_kept s)
  | .releaseCompletion => event_completes (releaseCompletion_kept s)
  | .trimCompletion => event_completes (trimCompletion_kept s)
  | .gateDelayExpiry => event_completes (by unfold gateDelayExpiry; split <;> exact { LawKept.refl s with })
  | .duckTailExpiry => event_completes (by unfold duckTailExpiry; split <;> exact { LawKept.refl s with })
  | .keyLevelChange k pressed => keyLevelChange_completes k pressed s
  | .debounceExpiry k => event_completes (debounceExpiry_kept k s)
  | .refusalFlashEnd => event_completes (f := refusalFlashEnd) { LawKept.refl s with }
  | .readStatus => event_completes (readStatus_kept s)
  | .readLanes => event_completes (answer_kept _ _ _ _ s)
  | .readLine => event_completes (answer_kept _ _ _ _ s)
  | .takeEvent => event_completes (takeEvent_kept s)
  | .readFeed => event_completes (answer_kept _ _ _ _ s)
  | .panelKey key action => event_completes (panelKey_kept key action s)
  | .panelTrim => event_completes (command_kept fun _ u _ => startTrim_kept u)
  | .panelRestart => event_completes (panelRestart_kept s)
  | .panelFeed arg => event_completes (panelFeed_kept arg s)
  | .setOrder .. => event_completes (command_kept fun _ u _ => placeOrder_kept _ u)
  | .sendDirect target action argument => event_completes (panelSendDirect_kept target action argument s)
  | .unknownCommand code => event_completes (unknownCommand_kept code s)
  | .transactionAbandoned => event_completes (deselect_kept s)
  | .eventRecordRemoval => event_completes (removeEvent_kept s)
  | .feedRecordRemoval => event_completes (removeFeed_kept s)
  | .feedOverflowClear => event_completes (clearOverflow_kept s)
  | .restartCompletion => event_completes (checkRestart_kept s)
  | .directAction47Arrival .. => event_completes (arrival_kept _ s)

/-! ## Steps -/

theorem Completes.after {t : State} {o : Host.Outcome State Fault Refusal} (h : LawKept s t) (ho : t.outbox = s.outbox)
    (k : Completes t o) : Completes s o := by
  obtain ⟨u, hu, hlaw, hout⟩ := k
  exact ⟨u, hu, h.trans hlaw, fun hs => hout (ho.trans hs)⟩

/-- R179: a command is shifted in only while no transaction is executed, with PSEL low. -/
theorem shiftIn_completes {bits : List Bool} (h : s.pp.shift = some bits) (pdi : Bool) :
    Completes s (shiftIn bits pdi s) := by
  simp only [shiftIn]
  split
  · split
    · exact exec_completes _ s
    · exact next_completes (.refl s) rfl
  · refine next_completes (port_kept (ht := fun ⟨hpsel, hshift, hclocked, hreading⟩ => ?_)) rfl
    have hnone : s.pp.transaction = none := hshift.resolve_left (by simp [h])
    exact ⟨fun hp => absurd (hpsel hp).1 (by simp [h]), .inr hnone, hclocked, hreading⟩

theorem recordOut_completes (last : LastByte) (s : State) : Completes s (recordOut last s) := by
  cases last with
  | nothing => exact next_completes (.refl s) rfl
  | clearOverflow => exact exec_completes .feedOverflowClear s
  | removeEvent => exact exec_completes .eventRecordRemoval s
  | removeFeed => exact exec_completes .feedRecordRemoval s

theorem shiftOut_completes {t : Transaction} (hs : s.pp.shift = none) (h : s.pp.transaction = some t) :
    Completes s (shiftOut t s) := by
  unfold shiftOut
  split
  next hmore =>
    have hclock : LawKept s { s with pp := { s.pp with transaction := some { t with clocked := t.clocked + 1 } } } := by
      refine port_kept (ht := fun ⟨hpsel, _, _, hreading⟩ =>
        ⟨fun hp => absurd (hpsel hp).2 (by simp [h]), .inl hs, ?_, fun hread => ?_⟩)
      · rintro _ ⟨⟩
        exact hmore
      · obtain ⟨hne, t', ht', hlast⟩ := hreading hread
        obtain rfl : t = t' := by simpa [h] using ht'
        exact ⟨hne, _, rfl, hlast⟩
    dsimp only
    split
    · exact (recordOut_completes _ _).after hclock rfl
    · exact next_completes hclock rfl
  next => exact next_completes (.refl s) rfl

theorem pclkRise_completes (pdi : Bool) (s : State) : Completes s (pclkRise pdi s) := by
  unfold pclkRise
  split
  next hshift => exact shiftIn_completes hshift pdi
  next hs h => exact shiftOut_completes hs h
  next => exact next_completes (.refl s) rfl

/-- While RST_N is low the law of the transaction says nothing. -/
theorem lowPort_kept {p : PanelPort} (hlow : s.resetLow = true) (he : p.events = s.pp.events := by rfl)
    (hf : p.feed = s.pp.feed := by rfl) : LawKept s { s with pp := p } :=
  pp_kept fun ⟨hlen, hover, hfeed, _⟩ =>
    ⟨he ▸ hlen, he ▸ hover, hf ▸ hfeed, fun hhigh => absurd hlow (by simp [show s.resetLow = false from hhigh])⟩

theorem lineBit_outbox {others : Bool} (h : s.outbox = []) : (lineBit others s).outbox = [] := by
  unfold lineBit
  split
  · exact h
  · exact flush_outbox _

theorem pinEvent_completes (e : PinEvent) (s : State) : Completes s (pinEvent e s) := by
  cases e with
  | lineBit others => exact ⟨_, rfl, lineBit_kept others s, lineBit_outbox⟩
  | pselFall =>
    simp only [pinEvent]
    split
    next hlow => exact next_completes (lowPort_kept hlow) rfl
    next =>
      split
      · exact next_completes (.refl s) rfl
      · exact next_completes (pselFall_kept s) rfl
  | pselRise =>
    simp only [pinEvent]
    split
    next hlow => exact next_completes (lowPort_kept hlow) rfl
    next =>
      split
      · exact next_completes (deselect_kept s) rfl
      · exact next_completes (.refl s) rfl
  | pclkRise pdi =>
    simp only [pinEvent]
    split
    · exact next_completes (.refl s) rfl
    · exact pclkRise_completes pdi s
  | pclkFall =>
    simp only [pinEvent]
    split
    · exact next_completes (.refl s) rfl
    · exact next_completes (port_kept (ht := id)) rfl

/-- A step keeps every law, of the state without what the step takes from its front. -/
theorem step_completes {t : State} (h : step s = .next t) :
    ∃ pending pins, LawKept { s with pending := pending, pins := pins } t ∧ (s.outbox = [] → t.outbox = []) := by
  unfold step at h
  split at h
  · obtain ⟨u, hu, hlaw, hout⟩ := pinEvent_completes (s.pins.headD (.lineBit true)) { s with pins := s.pins.tail }
    obtain rfl : u = t := Host.Outcome.next.inj (hu.symm.trans h)
    exact ⟨s.pending, s.pins.tail, hlaw, hout⟩
  next c rest _ =>
    obtain ⟨u, hu, hlaw, hout⟩ := exec_completes c { s with pending := rest }
    obtain rfl : u = t := Host.Outcome.next.inj (hu.symm.trans h)
    exact ⟨rest, s.pins, hlaw, hout⟩

/-- Settles O6 (R52), by the law that every operation keeps. -/
theorem everyStepKeepsTheViewLaw : Obligations.EveryStepKeepsTheViewLaw := by
  intro s t hview hranges hstep
  obtain ⟨_, _, hlaw, -⟩ := step_completes hstep
  exact hlaw.view ⟨hview, hranges⟩

/-- Settles O7 (R75, R77), by the law that every operation keeps. -/
theorem everyStepKeepsTheWindowLaw : Obligations.EveryStepKeepsTheWindowLaw := by
  intro s t hwindow hstep
  obtain ⟨_, _, hlaw, -⟩ := step_completes hstep
  exact hlaw.window hwindow

/-- Settles O8 (R95, R107, R135, R136, R147), by the laws that every operation keeps. -/
theorem everyStepKeepsTheRecordRanges : Obligations.EveryStepKeepsTheRecordRanges := by
  intro s t horder htimer hchair hvoice hstep
  obtain ⟨_, _, hlaw, -⟩ := step_completes hstep
  exact ⟨hlaw.order horder, hlaw.timer horder htimer, hlaw.chair hchair, hlaw.voice hvoice, hlaw.settling⟩

/-- Settles O9 (R36, R179, R185 to R187), by the laws that every operation keeps. -/
theorem everyStepKeepsTheQueuesBounded : Obligations.EveryStepKeepsTheQueuesBounded := by
  intro s t hpanel hqueue hline hstep
  obtain ⟨_, _, hlaw, hout⟩ := step_completes hstep
  obtain ⟨hpart, hnone⟩ := panelLaw_iff.mp hpanel
  exact ⟨panelLaw_iff.mpr ⟨hlaw.panel hpart, hout hnone⟩, hlaw.queue hqueue, hlaw.line hline⟩

/-- Settles O1. -/
theorem stepRunsTheFrontCommand : Obligations.StepRunsTheFrontCommand := by
  intro c rest s hpending
  simp [step, hpending]

/-- Settles O2, by what every operation keeps of the model's own queue. -/
theorem everyCommandCompletesAndKeepsTheQueue : Obligations.EveryCommandCompletesAndKeepsTheQueue := by
  intro c s
  obtain ⟨t, ht, hlaw, -⟩ := exec_completes c s
  exact ⟨t, ht, hlaw.pending, hlaw.pins⟩

/-- Settles O5: the reset state is a state right after a release of RST_N, whose values meet every law. -/
theorem resetStateMeetsEveryLaw : Obligations.ResetStateMeetsEveryLaw := by
  obtain ⟨hview, hranges⟩ := freeView_laws (t := State.reset) rfl rfl rfl
  refine ⟨hview, hranges, LineLaw.nil (Nat.zero_le _), profileOrder_inRange 0, timer_reset_inRange, fun _ => rfl,
    settling_zero rfl, ?_, ?_, sendQ_reset_inRange none, ?_, rfl⟩
  · exact ⟨Nat.zero_le _, ⟨by decide, by decide⟩, Nat.zero_le _, Nat.zero_le _, .inl rfl, by simp [State.reset]⟩
  · simp [State.PanelLaw, PanelPort.TransactionLaw, State.reset, PanelPort.reset]
  · simp [LineIf.InRange, State.reset, LineIf.reset]

end Sys2Proof.Kept
end

section

/-! What a command gives: its effect and the end of its instant. The rules that the statements about single commands share, and
the first of those statements: the edges of RST_N, a discard, the timers of Gate Control, the keys' levels, the refusals of the
panel, TRIM, FEED and the chair's commands, and the event queue. -/

namespace Sys2Proof.Instant

open Sys2Proof Sys2Proof.Machine

-- One proof at a time: the text is compiled in bounded memory.
set_option Elab.async false

/-! ## An instant -/

/-- Two states are equal when they agree field by field. -/
theorem state_eq_iff (s t : State) :
    s = t ↔
      s.pending = t.pending ∧ s.resetLow = t.resetLow ∧ s.pins = t.pins ∧ s.addr = t.addr ∧ s.role = t.role ∧
      s.profile = t.profile ∧ s.li = t.li ∧ s.sq = t.sq ∧ s.lanes = t.lanes ∧ s.mutes = t.mutes ∧
      s.viewTicks = t.viewTicks ∧ s.window = t.window ∧ s.mark = t.mark ∧ s.ownAsk = t.ownAsk ∧ s.order = t.order ∧
      s.seat = t.seat ∧ s.flags = t.flags ∧ s.st = t.st ∧ s.vu = t.vu ∧ s.gc = t.gc ∧ s.key1 = t.key1 ∧
      s.key2 = t.key2 ∧ s.key3 = t.key3 ∧ s.flash = t.flash ∧ s.pp = t.pp ∧ s.outbox = t.outbox ∧
      s.freeCount = t.freeCount := by
  cases s; cases t; simp

/-- A command whose effect is f gives what holds after f and the end of the instant. -/
theorem gives_of_event {c : Instr} {f : State → State} {s : State} {P : State → Prop} (hs : s.Ready)
    (hc : exec c s = event f s) (h : P (flush (f s))) : Gives c s P :=
  ⟨flush (f s), hc.trans (event_of_high f hs.1), h⟩

/-- A command whose effect posts nothing gives what holds after its effect. -/
theorem gives_of_quiet {c : Instr} {f : State → State} {s : State} {P : State → Prop} (hs : s.Ready)
    (hc : exec c s = event f s) (ho : (f s).outbox = []) (h : P (f s)) : Gives c s P :=
  gives_of_event hs hc (by rwa [flush_of_empty ho])

/-- R20, R174, R179: while RST_N is low no command's effect comes about. -/
theorem event_of_low {s : State} (f : State → State) (h : s.resetLow = true) : event f s = .next s := by
  simp [event, h]

/-- R185: an instant at which one block posts one event. -/
theorem flush_post {s : State} (b : Block) (e : Event) (h : s.outbox = []) : flush (post b e s) = s.posting e := by
  have hsame : ({ post b e s with outbox := [] } : State) = s := congrArg (fun o => ({ s with outbox := o } : State)) h.symm
  rw [flush_of_one (b := b) (e := e) (by rw [post_outbox, h]; rfl), hsame]

/-- R112: an instant at which a refusal is posted and signalled. -/
theorem flush_refuse {s : State} (r : Refused) (h : s.outbox = []) :
    flush (refuse r s) = State.posting { s with flash := .running 2000 } (.askRefused r) :=
  flush_post (s := { s with flash := .running 2000 }) .sa (.askRefused r) h

@[simp] theorem flush_pp_keeps (s : State) :
    (flush s).pp.psel = s.pp.psel ∧ (flush s).pp.shift = s.pp.shift ∧ (flush s).pp.pdoBit = s.pp.pdoBit ∧
    (flush s).pp.reading = s.pp.reading ∧ (flush s).pp.feed = s.pp.feed ∧ (flush s).pp.feedOn = s.pp.feedOn ∧
    (flush s).pp.overflow = s.pp.overflow ∧ (flush s).pp.overflowSince = s.pp.overflowSince ∧
    (flush s).pp.transaction = s.pp.transaction := by
  rw [Kept.flush_pp]
  simp

/-! ## The edges of RST_N -/

/-- Settles O3: while RST_N is low every command but the two that act is `event` or a test of RST_N. -/
theorem resetAssertSilencesTheStation : Obligations.ResetAssertSilencesTheStation := by
  intro c s
  refine ⟨fun hhigh => ⟨assertReset s, ?_, rfl⟩, fun hlow => ⟨?_, ?_, ?_, ?_, ?_, ?_, ?_⟩⟩
  · show Host.Outcome.next (if s.resetLow then s else assertReset s) = _
    simp [hhigh]
  · simp [State.flTx, hlow]
  · simp [State.gateOpen, hlow]
  · simp [State.attn, hlow]
  · simp [State.ring, hlow]
  · simp [State.req, hlow]
  · simp [State.pdo, hlow]
  · cases c with
    | pinResetRelease => trivial
    | pinResetAssert => exact congrArg Host.Outcome.next (if_pos hlow)
    | keyLevelChange k b => exact congrArg Host.Outcome.next (if_pos hlow)
    | _ => exact event_of_low _ hlow

/-- Settles O4: `releaseReset` field by field. -/
theorem resetReleaseLatchesStrapsAndResets : Obligations.ResetReleaseLatchesStrapsAndResets := by
  intro a r p s hlow
  refine ⟨releaseReset a r p s, congrArg Host.Outcome.next (if_pos hlow), rfl, rfl, rfl, rfl, ?seat,
    ⟨rfl, rfl, rfl, rfl, rfl, rfl⟩, rfl, ?lanes, rfl, rfl, rfl, rfl, rfl, rfl, rfl, rfl, rfl, rfl, ?keys, rfl,
    rfl, rfl, rfl, rfl, rfl, rfl, rfl, rfl⟩
  case seat => simp [releaseReset, validAddress, imp_iff_not_or]
  case lanes => intro i; fin_cases i <;> rfl
  case keys => intro k; cases k <;> rfl

/-! ## A discard and the timers of Gate Control -/

/-- Settles O17, by the cause of the discard. -/
theorem discardEmptiesTheBufferAndMayBurst : Obligations.DiscardEmptiesTheBufferAndMayBurst := by
  intro cause s hs
  refine ⟨fun hreceives => ?_, gives_of_quiet hs rfl hs.2 rfl⟩
  have hburst : s.li.burstLeft = 0 := by simpa using (Bool.and_eq_true_iff.mp hreceives).2
  have heffect : frameDiscard cause s = discardFrame cause s := if_pos hreceives
  refine gives_of_quiet (f := frameDiscard cause) hs rfl ?_ ?_ <;> rw [heffect, discardFrame]
  · split <;> exact hs.2
  · by_cases hbursts : (cause = .stuffFault ∨ cause = .formatFault) ∧ s.seat ≠ .listen
    · rw [if_pos hbursts, if_pos hbursts]
      rfl
    · rw [if_neg hbursts, if_neg hbursts]
      simp [state_eq_iff, hburst]

theorem twelve_le_trimMargin (s : State) : 12 ≤ s.prof.trimMargin := by
  unfold State.prof profileOf
  repeat' split
  all_goals decide

/-- Settles O47: a completion posts one event at most. -/
theorem trimAndGateTimersComplete : Obligations.TrimAndGateTimersComplete := by
  intro tr ms s hs
  refine ⟨fun htrim hcount => ?trim, fun hdelay => ?delay, fun htail => ?tail⟩
  case trim =>
    have heffect : trimCompletion s =
        post .vu (.trimDone (min 255 ((tr.sum + s.level) / 2048 + s.prof.trimMargin)))
          { s with vu := { s.vu with threshold := min 255 ((tr.sum + s.level) / 2048 + s.prof.trimMargin), trim := none } } := by
      simp [trimCompletion, moveTrim, htrim, hcount]
    refine gives_of_event (f := trimCompletion) hs rfl ⟨?_, ?_⟩
    · rw [heffect]
      exact flush_post .vu _ hs.2
    · have := twelve_le_trimMargin s
      omega
  case delay =>
    have heffect : gateDelayExpiry s = { s with gc := { s.gc with gateDelay := .expired } } := by
      simp [gateDelayExpiry, hdelay]
    refine gives_of_quiet (f := gateDelayExpiry) hs rfl ?_ ?_ <;> rw [heffect]
    · exact hs.2
    · exact ⟨rfl, by simp [State.gateOpen, hs.1, State.isChair, State.muteActive]⟩
  case tail =>
    have heffect : duckTailExpiry s = { s with gc := { s.gc with duckTail := .stopped, spkMute := false } } := by
      simp [duckTailExpiry, htail]
    refine gives_of_quiet (f := duckTailExpiry) hs rfl ?_ ?_ <;> rw [heffect]
    exact hs.2

end Sys2Proof.Instant
end

section

/-! The event queue (R185), the decision of a TALK press (R110, R111), the keys' levels and the lamps (R175 to R178), and the
panel commands with the refusals that come before them (R154, R170, R171, R180, R181). -/

namespace Sys2Proof.Instant

open Sys2Proof Sys2Proof.Machine

-- One proof at a time: the text is compiled in bounded memory.
set_option Elab.async false

/-! ## The event queue -/

theorem any_overrun_eq_false {q : List EventRec} (h : ∀ r ∈ q, r.event ≠ .overrun) :
    q.any (fun r => decide (r.event = .overrun)) = false := by
  simpa using h

theorem merges_iff {e : Event} : e.merges = true ↔ e = .lineChanged ∨ ∃ lane, e = .laneChanged lane := by
  cases e <;> simp [Event.merges]

/-- R185: behind an OVERRUN an event is lost. -/
theorem enqueueEvent_of_overrun (stamp : Nat) (reading : Bool) {q : List EventRec} (e : Event)
    (h : ∃ r ∈ q, r.event = .overrun) : enqueueEvent stamp reading q e = q := by
  unfold enqueueEvent
  rw [if_pos (by simpa using h)]

/-- R185: an event that only says "look again" is merged into an equal one. -/
theorem enqueueEvent_of_merged (stamp : Nat) (reading : Bool) {q : List EventRec} {e : Event} (he : e.merges = true)
    (h : ∃ r ∈ (if reading then q.tail else q), r.event = e) : enqueueEvent stamp reading q e = q := by
  have hany : (if reading then q.tail else q).any (fun r => decide (r.event = e)) = true := by simpa using h
  unfold enqueueEvent
  rw [he, hany]
  simp

/-- R185: an event that is not merged is appended, or lost with the last entry replaced. -/
theorem enqueueEvent_of_unmerged (stamp : Nat) (reading : Bool) {q : List EventRec} {e : Event}
    (hq : ∀ r ∈ q, r.event ≠ .overrun)
    (h : e.merges = false ∨ ∀ r ∈ (if reading then q.tail else q), r.event ≠ e) :
    enqueueEvent stamp reading q e =
      if q.length < 16 then q ++ [{ event := e, stamp := stamp }] else q.dropLast ++ [{ event := .overrun, stamp := stamp }] := by
  have hmerge : (e.merges && (if reading then q.tail else q).any (fun r => decide (r.event = e))) = false := by
    obtain he | hne := h
    · rw [he, Bool.false_and]
    · have hany : (if reading then q.tail else q).any (fun r => decide (r.event = e)) = false := by simpa using hne
      rw [hany, Bool.and_false]
  unfold enqueueEvent
  rw [any_overrun_eq_false hq, hmerge]
  simp

/-- Settles O60, by the tests of `enqueueEvent` in their order. -/
theorem eventQueueMergesAppendsOrOverruns : Obligations.EventQueueMergesAppendsOrOverruns := by
  intro stamp reading q e s
  refine ⟨fun hhigh => by simp [State.attn, hhigh], fun h => enqueueEvent_of_overrun stamp reading e h, fun hq =>
    ⟨fun he h => enqueueEvent_of_merged stamp reading (merges_iff.mpr he) h, fun h => ?_⟩⟩
  have hunmerged : e.merges = false ∨ ∀ r ∈ (if reading then q.tail else q), r.event ≠ e := by
    refine h.imp_left fun ⟨hlane, hline⟩ => ?_
    simpa [hline, hlane] using not_congr (merges_iff (e := e))
  have henqueue := enqueueEvent_of_unmerged stamp reading hq hunmerged
  refine ⟨fun hroom => by rw [henqueue, if_pos hroom], fun hfull => ?_⟩
  rw [henqueue, if_neg (by omega), List.dropLast_eq_take, hfull]

/-! ## The decision of a TALK press -/

theorem takeInRoom_of_room {s : State} {lane : Fin 8} {rest : List (Fin 8)} (d : Decision)
    (hroom : s.delegateLanes < s.order.laneLimit) (hfree : s.freeLanes = lane :: rest) :
    takeInRoom d s = .take lane false := by
  have : 1 ≤ s.room := by unfold State.room; omega
  simp [takeInRoom, hfree, this]

theorem takeInRoom_of_full {s : State} (d : Decision) (h : s.order.laneLimit ≤ s.delegateLanes ∨ s.freeLanes = []) :
    takeInRoom d s = d := by
  unfold takeInRoom
  split
  next lane rest hfree =>
    obtain hfull | hnone := h
    · exact if_neg (by unfold State.room; omega)
    · rw [hfree] at hnone
      cases hnone
  next => rfl

theorem takeOrDisplace_eq (standings : List Role) (s : State) :
    takeOrDisplace standings s = match s.freeLanes, s.oldestLane standings with
      | lane :: _, _ => .take lane false
      | [], some i => .take i true
      | [], none => .noLane := by
  unfold takeOrDisplace
  cases s.freeLanes <;> cases s.oldestLane standings <;> rfl

/-- Settles O49, by role and mode. -/
theorem talkPressDecidesByStandingAndMode : Obligations.TalkPressDecidesByStandingAndMode := by
  intro s
  refine ⟨fun hrole => ⟨?openTakes, ?openAsks, ?overrideTakes, ?overrideDisplaces, ?moderated⟩,
    fun hrole => ⟨?priority, ?priorityModerated⟩, fun hrole => ?chair⟩
  case openTakes =>
    intro hmode hwindow hroom lane rest hfree
    simp [talkDecision, hrole, delegateDecision, hmode, hwindow, takeInRoom_of_room _ hroom hfree]
  case openAsks =>
    intro hmode h
    simp only [talkDecision, hrole, delegateDecision, hmode]
    split
    next hwindow => exact takeInRoom_of_full _ (h.resolve_left (by simpa using hwindow))
    next => rfl
  case overrideTakes =>
    intro hmode hroom lane rest hfree
    simp [talkDecision, hrole, delegateDecision, hmode, takeInRoom_of_room _ hroom hfree]
  case overrideDisplaces =>
    intro hmode h
    simp only [talkDecision, hrole, delegateDecision, hmode]
    exact takeInRoom_of_full _ h
  case moderated =>
    intro hmode
    simp [talkDecision, hrole, delegateDecision, hmode]
  case priority =>
    intro hmode
    have hdecision : talkDecision s = takeOrDisplace [.delegate] s := by
      obtain hmode | hmode := hmode <;> simp [talkDecision, hrole, hmode, priorityDecision]
    exact hdecision.trans (takeOrDisplace_eq _ s)
  case priorityModerated =>
    intro hmode
    simp [talkDecision, hrole, hmode]
  case chair =>
    have hdecision : talkDecision s = takeOrDisplace [.priority, .delegate] s := by
      simp [talkDecision, hrole, chairDecision]
    exact hdecision.trans (takeOrDisplace_eq _ s)

/-! ## The keys' levels and the lamps -/

@[simp] theorem keyOf_setKey_same (k : KeyId) (x : KeyState) (s : State) : (setKey k x s).keyOf k = x := by
  cases k <;> rfl

theorem keyOf_setKey_other {j k : KeyId} (x : KeyState) (s : State) (h : j ≠ k) : (setKey k x s).keyOf j = s.keyOf j := by
  cases j <;> cases k <;> first | rfl | exact absurd rfl h

theorem setKey_eq (k : KeyId) (x : KeyState) (s : State) :
    setKey k x s =
      { s with key1 := (setKey k x s).key1, key2 := (setKey k x s).key2, key3 := (setKey k x s).key3 } := by
  cases k <;> rfl

/-- The three keys of two states agree. -/
def SameKeys (s t : State) : Prop := t.key1 = s.key1 ∧ t.key2 = s.key2 ∧ t.key3 = s.key3

theorem SameKeys.keyOf {s t : State} (h : SameKeys s t) (j : KeyId) : t.keyOf j = s.keyOf j := by
  obtain ⟨h1, h2, h3⟩ := h
  cases j
  · exact h1
  · exact h2
  · exact h3

theorem cancelAsk_sameKeys (c : Cause) (s : State) : SameKeys s (cancelAsk c s) := by
  unfold cancelAsk
  split <;> simp [SameKeys]

theorem cancelWait_sameKeys (c : Cause) (s : State) : SameKeys s (cancelWait c s) := by
  unfold cancelWait
  split <;> simp [SameKeys]

theorem talkPress_sameKeys (c : Cause) (s : State) : SameKeys s (talkPress c s) := by
  unfold talkPress
  split
  · simp [SameKeys]
  · exact cancelAsk_sameKeys c s
  · exact cancelWait_sameKeys c s
  · unfold talkTaking
    repeat' split
    all_goals simp [SameKeys]
  · split <;> simp [SameKeys]
  · simp [SameKeys]
  · exact ⟨rfl, rfl, rfl⟩

theorem cancelPress_sameKeys (c : Cause) (s : State) : SameKeys s (cancelPress c s) := by
  unfold cancelPress
  split
  · exact cancelAsk_sameKeys c s
  · exact cancelWait_sameKeys c s
  · exact ⟨rfl, rfl, rfl⟩

theorem priorityPress_sameKeys (s : State) : SameKeys s (priorityPress s) := by
  simp only [priorityPress]
  repeat' split
  all_goals simp [SameKeys]

theorem priorityRelease_sameKeys (c : Cause) (s : State) : SameKeys s (priorityRelease c s) := by
  simp only [priorityRelease]
  repeat' split
  all_goals simp [SameKeys]

theorem nextPress_sameKeys (s : State) : SameKeys s (nextPress s) := by
  have push (target : Nat) (action : BitVec 3) : SameKeys s (pushNext target action s) := by
    unfold pushNext
    split <;> simp [SameKeys]
  unfold nextPress
  repeat' split
  all_goals first | exact push _ _ | simp [SameKeys]

theorem seatPress_sameKeys (k : KeyId) (c : Cause) (s : State) : SameKeys s (seatPress k c s) := by
  unfold seatPress
  split
  · exact ⟨rfl, rfl, rfl⟩
  split
  · exact ⟨rfl, rfl, rfl⟩
  · split <;> exact ⟨rfl, rfl, rfl⟩
  cases k with
  | k1 =>
    dsimp only
    split
    · exact ⟨rfl, rfl, rfl⟩
    · exact talkPress_sameKeys c s
  | k2 =>
    dsimp only
    split
    · exact priorityPress_sameKeys s
    · exact cancelPress_sameKeys c s
  | k3 =>
    dsimp only
    split
    · exact nextPress_sameKeys s
    · exact ⟨rfl, rfl, rfl⟩

theorem seatRelease_sameKeys (k : KeyId) (c : Cause) (s : State) : SameKeys s (seatRelease k c s) := by
  unfold seatRelease
  split
  · exact ⟨rfl, rfl, rfl⟩
  split
  · exact ⟨rfl, rfl, rfl⟩
  · exact ⟨rfl, rfl, rfl⟩
  cases k with
  | k1 =>
    dsimp only
    split <;> exact ⟨rfl, rfl, rfl⟩
  | k2 =>
    dsimp only
    split
    · exact priorityRelease_sameKeys c s
    · exact ⟨rfl, rfl, rfl⟩
  | k3 => exact ⟨rfl, rfl, rfl⟩

/-- R175: a key's report to the Seat Agent changes no key. -/
theorem keyReport_sameKeys (k : KeyId) (pressed : Bool) (c : Cause) (s : State) :
    SameKeys s (keyReport k pressed c s) := by
  have habort : SameKeys s (if k = .k1 then abortTrim .key s else s) := by
    split <;> simp [SameKeys]
  obtain ⟨h1, h2, h3⟩ := habort
  unfold keyReport
  split
  · exact ⟨rfl, rfl, rfl⟩
  split
  · obtain ⟨p1, p2, p3⟩ := seatPress_sameKeys k c (if k = .k1 then abortTrim .key s else s)
    exact ⟨p1.trans h1, p2.trans h2, p3.trans h3⟩
  · exact seatRelease_sameKeys k c s

theorem flush_sameKeys (s : State) : SameKeys s (flush s) := by
  simp [SameKeys]

/-- R91, R177: a WAITING seat of rank 0 has no smaller pair in its window. -/
theorem rankOf_eq_zero_iff {s : State} {ticket : Nat} :
    s.rankOf ticket = 0 ↔ ∀ e ∈ s.window, pairBefore e.ticket e.asker ticket s.addr = false := by
  simp [State.rankOf, List.filter_eq_nil_iff]

/-- R176, R178: RING outside a clash, by the seat. -/
theorem ring_of_no_clash {s : State} (hs : s.resetLow = false) (hclash : s.flags.clash = false) :
    s.ring = match s.seat with
      | .live _ => if s.muteActive && !s.isChair then .blinkSlow else .on
      | .warned _ => if s.muteActive && !s.isChair then .blinkSlow else .blinkFast
      | _ => .off := by
  unfold State.ring
  rw [hs, hclash]
  rfl

/-- R177, R178: REQ outside a clash, SETTLING and LISTEN while no flash runs, by the seat. -/
theorem req_of_no_flash {s : State} (hs : s.resetLow = false) (hclash : s.flags.clash = false)
    (hsettling : s.seat.isSettling = false) (hlisten : s.seat ≠ .listen) :
    s.req = if s.flash ≠ .stopped then .blinkFast
      else match s.seat with
        | .asking => .on
        | .waiting => if s.rank? = some 0 then .blinkSlow else .on
        | _ => .off := by
  unfold State.req
  rw [hs, hclash]
  cases hseat : s.seat <;> simp_all [Seat.isSettling]

/-- R175: the expiry of a running stability timer. -/
theorem debounceExpiry_of_running {k : KeyId} {s : State} (h : (s.keyOf k).timer ≠ .stopped) :
    debounceExpiry k s =
      keyReport k (s.keyOf k).pin .key
        (setKey k { pin := (s.keyOf k).pin, pressed := (s.keyOf k).pin, timer := .stopped } s) := by
  simp [debounceExpiry, h]

/-- Settles O53: the debouncers by key, and the lamps by the seat. -/
theorem keyLevelsRunTheStabilityTimer : Obligations.KeyLevelsRunTheStabilityTimer := by
  intro k level s hs
  refine ⟨fun hpin => ⟨setKey k (keyAtLevel s.prof.debounce level (s.keyOf k)) s, ?run, ?_, setKey_eq k _ s, ?_⟩,
    fun htimer => gives_of_event hs rfl ⟨?_, ?_⟩, gives_of_quiet hs rfl hs.2 rfl, fun hclash => ?clash,
    fun hclash hseat => ?off, fun hclash => ⟨?muted, ?live, ?warned, ?silent⟩,
    fun hclash hsettling hlisten => ⟨fun hflash => ?_, fun hflash => ⟨fun hasking => ?_, fun ticket hask hwaiting => ?_,
      fun hasking hwaiting => ?_⟩⟩⟩
  case run =>
    have hne : ¬ (s.keyOf k).pin = level := hpin
    simp [exec, execKeyLevelChange, hs.1, keyLevelChange, hne]
  · exact keyOf_setKey_same k _ s
  · exact fun j hj => keyOf_setKey_other _ s hj
  · rw [debounceExpiry_of_running htimer, (flush_sameKeys _).keyOf, (keyReport_sameKeys k _ _ _).keyOf,
      keyOf_setKey_same]
  · intro j hj
    rw [debounceExpiry_of_running htimer, (flush_sameKeys _).keyOf, (keyReport_sameKeys k _ _ _).keyOf,
      keyOf_setKey_other _ s hj]
  case clash => simp [State.ring, State.req, hs.1, hclash]
  case off =>
    rw [ring_of_no_clash hs.1 hclash]
    cases hs' : s.seat <;> simp_all [Seat.isSettling, State.req, hs.1]
  case muted =>
    intro o hseat hmutes hrole
    have hactive : (s.muteActive && !s.isChair) = true := by simp [State.muteActive, State.isChair, hmutes, hrole]
    rw [ring_of_no_clash hs.1 hclash]
    obtain hseat | hseat := hseat <;> simp [hseat, hactive]
  case live =>
    intro o hseat hfree
    have hinactive : (s.muteActive && !s.isChair) = false := by
      obtain h | h := hfree <;> simp [State.muteActive, State.isChair, h]
    rw [ring_of_no_clash hs.1 hclash, hseat, hinactive]
    rfl
  case warned =>
    intro o hseat hfree
    have hinactive : (s.muteActive && !s.isChair) = false := by
      obtain h | h := hfree <;> simp [State.muteActive, State.isChair, h]
    rw [ring_of_no_clash hs.1 hclash, hseat, hinactive]
    rfl
  case silent =>
    intro hseat
    rw [ring_of_no_clash hs.1 hclash]
    cases hs' : s.seat <;> simp_all [Seat.speaking?]
  · rw [req_of_no_flash hs.1 hclash hsettling hlisten, if_pos hflash]
  · rw [req_of_no_flash hs.1 hclash hsettling hlisten, if_neg (not_not.mpr hflash), hasking]
  · have hreq : s.req = if s.rankOf ticket = 0 then .blinkSlow else .on := by
      rw [req_of_no_flash hs.1 hclash hsettling hlisten, if_neg (not_not.mpr hflash), hwaiting]
      simp [State.rank?, hask]
    refine ⟨fun hfirst => ?_, fun ⟨e, he, hbefore⟩ => ?_⟩
    · rw [hreq, if_pos (rankOf_eq_zero_iff.mpr hfirst)]
    · rw [hreq, if_neg]
      intro hzero
      exact absurd hbefore (by simp [rankOf_eq_zero_iff.mp hzero e he])
  · rw [req_of_no_flash hs.1 hclash hsettling hlisten, if_neg (not_not.mpr hflash)]
    cases hs' : s.seat <;> simp_all

/-! ## Panel commands -/

/-- R180: a refused command is answered with its refusal. -/
theorem command_of_refusal {s : State} {code : Byte} {inListen inSettling : Bool} {check : PanelStatus}
    {effect : State → State} {r : PanelStatus} (h : s.refusal inListen inSettling = some r) :
    command code inListen inSettling check effect s = s.answering code r.code [] .nothing := by
  unfold command
  rw [h]
  rfl

/-- R180: a command that is not refused, by its own checks. -/
theorem command_of_no_refusal {s : State} {code : Byte} {inListen inSettling : Bool} {check : PanelStatus}
    {effect : State → State} (h : s.refusal inListen inSettling = none) :
    command code inListen inSettling check effect s =
      if check = .ok then effect (s.answering code 0 [] .nothing) else s.answering code check.code [] .nothing := by
  unfold command
  rw [h]
  rfl

theorem refusal_of_pending {s : State} (h : s.flags.restartPending = true) (inListen inSettling : Bool) :
    s.refusal inListen inSettling = some .busy := by
  simp [State.refusal, h]

theorem refusal_of_listen {s : State} (h : s.flags.restartPending = false) (hseat : s.seat = .listen)
    (inSettling : Bool) : s.refusal true inSettling = some .listenOnly := by
  simp [State.refusal, h, hseat]

theorem refusal_of_settling {s : State} (h : s.flags.restartPending = false) (hseat : s.seat.isSettling = true)
    (inListen : Bool) : s.refusal inListen true = some .settling := by
  have : s.seat ≠ .listen := by rintro hl; simp [hl, Seat.isSettling] at hseat
  simp [State.refusal, h, hseat, this]

theorem refusal_eq_none {s : State} {inListen inSettling : Bool} (h : s.flags.restartPending = false)
    (hlisten : inListen = true → s.seat ≠ .listen) (hsettling : inSettling = true → s.seat.isSettling = false) :
    s.refusal inListen inSettling = none := by
  unfold State.refusal
  cases inListen <;> cases inSettling <;> simp_all

/-- R180: the six commands that R180 may refuse, each with the states in which it is. -/
def RefusedIn (c : Instr) (code : Byte) (inListen inSettling : Bool) : Prop :=
  ∀ s, ∃ check effect, exec c s = event (command code inListen inSettling check effect) s

theorem panelKey_refusedIn (key action : Byte) : RefusedIn (.panelKey key action) 0x10 true true := by
  intro s
  have hkey : ∃ check effect, panelKey key action = command 0x10 true true check effect := by
    cases hk : keyOfByte key with
    | some k =>
      exact ⟨_, _, funext fun u => by rw [panelKey, hk]⟩
    | none => exact ⟨.badArg, id, funext fun u => by rw [panelKey, hk]⟩
  obtain ⟨check, effect, h⟩ := hkey
  exact ⟨check, effect, congrArg (fun f => event f s) h⟩

/-- A command at a Ready state whose effect is an answer and nothing else. -/
theorem gives_answer {c : Instr} {f : State → State} {s t : State} (hs : s.Ready) (hc : exec c s = event f s)
    (hf : f s = t) (ht : t.outbox = s.outbox) : Gives c s (fun u => u = t) :=
  gives_of_quiet hs hc (by rw [hf, ht, hs.2]) hf

end Sys2Proof.Instant
end


section

/-! The panel's commands: the refusals in their order, TRIM, FEED, SET_ORDER and SEND_DIRECT (R154, R170, R171, R180, R181), and
the panel's keys (R162 to R168, R181). -/

namespace Sys2Proof.Instant

open Sys2Proof Sys2Proof.Machine

-- One proof at a time: the text is compiled in bounded memory.
set_option Elab.async false

/-- `State.answering` (R179) changes pp alone. -/
@[simp] theorem answering_keeps (s : State) (c r : Byte) (bs : List Byte) (l : LastByte) :
    (s.answering c r bs l).pending = s.pending ∧ (s.answering c r bs l).resetLow = s.resetLow ∧
    (s.answering c r bs l).pins = s.pins ∧ (s.answering c r bs l).addr = s.addr ∧ (s.answering c r bs l).role = s.role ∧
    (s.answering c r bs l).profile = s.profile ∧ (s.answering c r bs l).li = s.li ∧ (s.answering c r bs l).sq = s.sq ∧
    (s.answering c r bs l).lanes = s.lanes ∧ (s.answering c r bs l).mutes = s.mutes ∧
    (s.answering c r bs l).viewTicks = s.viewTicks ∧ (s.answering c r bs l).window = s.window ∧
    (s.answering c r bs l).mark = s.mark ∧ (s.answering c r bs l).ownAsk = s.ownAsk ∧
    (s.answering c r bs l).order = s.order ∧ (s.answering c r bs l).seat = s.seat ∧
    (s.answering c r bs l).flags = s.flags ∧ (s.answering c r bs l).st = s.st ∧ (s.answering c r bs l).vu = s.vu ∧
    (s.answering c r bs l).gc = s.gc ∧ (s.answering c r bs l).key1 = s.key1 ∧ (s.answering c r bs l).key2 = s.key2 ∧
    (s.answering c r bs l).key3 = s.key3 ∧ (s.answering c r bs l).flash = s.flash ∧
    (s.answering c r bs l).outbox = s.outbox ∧ (s.answering c r bs l).freeCount = s.freeCount := by
  simp [State.answering]

/-- Settles O55: the six commands are `command` with their states, and a refusal is an answer. -/
theorem panelRefusalsComeInOrder : Obligations.PanelRefusalsComeInOrder := by
  intro c code inListen inSettling s hs hc
  have hrefused : RefusedIn c code inListen inSettling := by
    cases c with
    | panelKey key action =>
      obtain ⟨rfl, rfl, rfl⟩ := hc
      exact panelKey_refusedIn key action
    | panelTrim | panelRestart | panelFeed | setOrder | sendDirect =>
      obtain ⟨rfl, rfl, rfl⟩ := hc
      exact fun s => ⟨_, _, rfl⟩
    | _ => exact hc.elim
  obtain ⟨check, effect, hexec⟩ := hrefused s
  have refused {r : PanelStatus} (h : s.refusal inListen inSettling = some r) :
      Gives c s fun t => t = s.answering code r.code [] .nothing :=
    gives_answer hs hexec (command_of_refusal h) rfl
  refine ⟨fun hpending => refused (refusal_of_pending hpending _ _), fun hpending => ⟨fun hin hseat => ?_, fun hin hseat => ?_⟩⟩
  · subst hin
    exact refused (refusal_of_listen hpending hseat inSettling)
  · subst hin
    exact refused (refusal_of_settling hpending hseat inListen)

/-- R154: TRIM outside the wait of a restart. -/
theorem panelTrim_eq {s : State} (h : s.flags.restartPending = false) :
    panelTrim s = if s.trimBusy then s.answering 0x11 1 [] .nothing
      else startTrim (s.answering 0x11 0 [] .nothing) := by
  rw [panelTrim, command_of_no_refusal (refusal_eq_none h (by simp) (by simp))]
  cases s.trimBusy <;> rfl

theorem byte_eq_one_iff (b : Byte) : b = 1 ↔ b.toNat = 1 := by
  rw [← BitVec.toNat_inj]
  rfl

/-- Settles O56, by the seat and a trim that runs, and by the argument. -/
theorem trimStartsAndFeedSwitches : Obligations.TrimStartsAndFeedSwitches := by
  intro arg s hs hpending
  refine ⟨?trim, ?feed⟩
  case trim =>
    refine gives_of_quiet (f := panelTrim) hs rfl ?_ ?_ <;> rw [panelTrim_eq hpending]
    · split <;> exact hs.2
    · cases hseat : s.seat <;> cases htrim : s.vu.trim <;>
        simp only [State.trimBusy, Seat.refusesTrim, hseat, htrim, Option.isSome_none, Option.isSome_some, Bool.or_false,
          Bool.or_true, Bool.false_eq_true, if_true, if_false] <;> rfl
  case feed =>
    have heffect : panelFeed arg s = if arg.toNat ≤ 1 then
        { s with pp := { (s.answering 0x13 0 [] .nothing).pp with feedOn := decide (arg.toNat = 1) } }
      else s.answering 0x13 3 [] .nothing := by
      have hzero : arg = 0 ↔ arg.toNat = 0 := by rw [← BitVec.toNat_inj]; rfl
      rw [panelFeed, command_of_no_refusal (refusal_eq_none hpending (by simp) (by simp))]
      by_cases harg : arg.toNat ≤ 1
      · have hok : arg = 0 ∨ arg = 1 := by rw [hzero, byte_eq_one_iff]; omega
        rw [if_pos harg, if_pos hok, if_pos rfl]
        simp only [byte_eq_one_iff]
        rfl
      · have hbad : ¬ (arg = 0 ∨ arg = 1) := by rw [hzero, byte_eq_one_iff]; omega
        rw [if_neg harg, if_neg hbad]
        rfl
    refine gives_of_quiet (f := panelFeed arg) hs rfl ?_ ?_ <;> rw [heffect]
    · split <;> exact hs.2
    · split <;> rfl

/-- R47, R171: SET_ORDER outside its refusals. -/
theorem panelSetOrder_eq {s : State} (mode l a g c clear : Byte) (hpending : s.flags.restartPending = false)
    (hsettling : s.seat.isSettling = false) (hlisten : s.seat ≠ .listen) :
    panelSetOrder mode l a g c clear s =
      if s.orderCheck mode l g c clear = .ok then
        placeOrder (.fixed { mode := modeOfCode mode.toNat, laneLimit := l.toNat, allowance := a.toNat, grace := g.toNat,
                             capacity := c.toNat, clear := decide (clear = 1) }) (s.answering 0x20 0 [] .nothing)
      else s.answering 0x20 (s.orderCheck mode l g c clear).code [] .nothing :=
  command_of_no_refusal (refusal_eq_none hpending (fun _ => hlisten) (fun _ => hsettling))

theorem panelSendDirect_eq {s : State} (target : BitVec 16) (action : Byte) (argument : BitVec 16)
    (hpending : s.flags.restartPending = false) (hsettling : s.seat.isSettling = false) (hlisten : s.seat ≠ .listen) :
    panelSendDirect target action argument s =
      if s.directCheck target action argument = .ok then
        pushDirect { target := BitVec.ofNat 10 target.toNat, action := BitVec.ofNat 3 action.toNat,
                     argument := if action = 2 then BitVec.ofInt 13 argument.toInt else 0 }
          (s.answering 0x21 0 [] .nothing)
      else s.answering 0x21 (s.directCheck target action argument).code [] .nothing :=
  command_of_no_refusal (refusal_eq_none hpending (fun _ => hlisten) (fun _ => hsettling))

/-- R170: the checks of SEND_DIRECT, in their order. -/
theorem directCheck_eq (s : State) (target : BitVec 16) (action : Byte) (argument : BitVec 16) :
    s.directCheck target action argument =
      if s.role ≠ .chair then .notChair
      else if 1000 < target.toNat ∨ 3 < action.toNat ∨ (action.toNat = 1 ∧ target.toNat = 0) ∨
          (action.toNat = 2 ∧ (argument.toInt < -4095 ∨ 4095 < argument.toInt)) then .badArg
      else if 4 ≤ s.sq.direct.length then .busy
      else .ok := by
  have htwo : action = 2 ↔ action.toNat = 2 := by rw [← BitVec.toNat_inj]; rfl
  have hzero : target = 0 ↔ target.toNat = 0 := by rw [← BitVec.toNat_inj]; rfl
  have hargument : ¬ (-4095 ≤ argument.toInt ∧ argument.toInt ≤ 4095) ↔ argument.toInt < -4095 ∨ 4095 < argument.toInt := by
    omega
  simp only [State.directCheck, State.isChair, State.fifoFull, decide_eq_true_eq, byte_eq_one_iff, htwo, hzero, hargument]
  by_cases hrole : s.role = .chair
  · by_cases htarget : 1000 < target.toNat
    · simp [hrole, htarget]
    · by_cases haction : 3 < action.toNat
      · simp [hrole, htarget, haction]
      · by_cases hgrant : action.toNat = 1 ∧ target.toNat = 0 <;> simp [hrole, htarget, haction, hgrant]
  · simp [hrole]

/-- Settles O57, by the checks of the two commands. -/
theorem chairCommandsPlaceTheirFrames : Obligations.ChairCommandsPlaceTheirFrames := by
  intro mode l a g c clear target action argument s hs hpending hsettling hlisten
  refine ⟨?order, ?direct⟩
  case order =>
    refine gives_of_quiet (f := panelSetOrder mode l a g c clear) hs rfl ?_ ?_ <;>
      rw [panelSetOrder_eq mode l a g c clear hpending hsettling hlisten]
    · split
      · simpa using hs.2
      · exact hs.2
    · by_cases hrole : s.role = .chair
      · by_cases hargs : mode.toNat ≤ 3 ∧ (1 ≤ l.toNat ∧ l.toNat ≤ 8) ∧ g.toNat ≤ 60 ∧ (1 ≤ c.toNat ∧ c.toNat ≤ 32) ∧
          clear.toNat ≤ 1
        · have hcheck : s.orderCheck mode l g c clear = .ok := by simp [State.orderCheck, State.isChair, hrole, hargs]
          rw [if_pos hcheck, if_neg (not_not.mpr hrole), if_pos hargs]
          simp only [placeOrder, byte_eq_one_iff]
          show (if s.flying .order = true then _ else _) = _
          split <;> rfl
        · have hcheck : s.orderCheck mode l g c clear = .badArg := by
            simp only [State.orderCheck, State.isChair, hrole, decide_true, not_true, if_false, if_neg hargs]
          rw [hcheck, if_neg (not_not.mpr hrole), if_neg hargs]
          rfl
      · have hcheck : s.orderCheck mode l g c clear = .notChair := by simp [State.orderCheck, State.isChair, hrole]
        rw [hcheck, if_pos hrole]
        rfl
  case direct =>
    refine gives_of_quiet (f := panelSendDirect target action argument) hs rfl ?_ ?_ <;>
      rw [panelSendDirect_eq target action argument hpending hsettling hlisten]
    · split <;> exact hs.2
    rw [directCheck_eq]
    by_cases hrole : s.role = .chair
    · rw [if_neg (not_not.mpr hrole), if_neg (not_not.mpr hrole)]
      split
      next hbad => rfl
      next hgood =>
        split
        next hfull => rfl
        next hroom =>
          refine ⟨_, ?_, ?_, ?_, rfl⟩
          · rw [BitVec.toNat_ofNat, Nat.mod_eq_of_lt (by omega)]
          · rw [BitVec.toNat_ofNat, Nat.mod_eq_of_lt (by omega)]
          · have htwo : action = 2 ↔ action.toNat = 2 := by rw [← BitVec.toNat_inj]; rfl
            dsimp only
            simp only [htwo]
            split
            · rw [BitVec.toInt_ofInt]
              rw [Int.bmod_eq_of_le] <;> omega
            · rfl
    · rw [if_pos hrole, if_pos hrole]
      rfl

end Sys2Proof.Instant
end

section

/-! The Speech Timer's tick and expiry (R137, R138, R140). -/

namespace Sys2Proof.Instant

open Sys2Proof Sys2Proof.Machine

-- One proof at a time: the text is compiled in bounded memory.
set_option Elab.async false

theorem correctRemaining_of_pos {remaining : Nat} {c : Int} (h : 0 < (remaining : Int) + c) :
    correctRemaining remaining c = (min 4095 ((remaining : Int) + c)).toNat ∧ correctRemaining remaining c ≠ 0 := by
  unfold correctRemaining
  omega

theorem correctRemaining_of_nonpos {remaining : Nat} {c : Int} (h : (remaining : Int) + c ≤ 0) :
    correctRemaining remaining c = 0 := by
  unfold correctRemaining
  omega

/-- R137 step 3: a pending correction is applied whatever the phase of the timer that runs. -/
theorem tickRemaining_of_correction {st : SpeechTimer} (hphase : st.phase ≠ .idle) (h : st.correction ≠ 0) :
    tickRemaining st = some (correctRemaining st.remaining st.correction) := by
  unfold tickRemaining
  split
  next hidle => exact absurd hidle hphase
  next => rw [if_pos h]
  next => rw [if_pos h]

/-- R137 step 4: without a correction a phase that counts falls by 1. -/
theorem tickRemaining_of_counting {st : SpeechTimer} {c : Counted} (hphase : st.phase = .counting c)
    (h : st.correction = 0) : tickRemaining st = some (st.remaining - 1) := by
  simp [tickRemaining, hphase, h]

theorem tickRemaining_of_paused {st : SpeechTimer} {c : Counted} (hphase : st.phase = .paused c)
    (h : st.correction = 0) : tickRemaining st = none := by
  simp [tickRemaining, hphase, h]

/-- R137: a count that leaves remaining above 0, without a lift. -/
theorem countSpeech_of_left {s : State} {r : Nat} (hr : tickRemaining s.st = some r) (hpos : r ≠ 0)
    (hlift : ¬ (0 < s.st.correction ∧ s.st.phase.counted? = some .grace)) :
    countSpeech s = { s with st := { s.st with remaining := r, correction := 0 } } := by
  simp only [countSpeech, hr]
  rw [if_neg hpos, if_neg hlift]

/-- R140: a positive correction in grace lifts the warning. -/
theorem countSpeech_of_lift {s : State} {r : Nat} (hr : tickRemaining s.st = some r) (hpos : r ≠ 0)
    (hlift : 0 < s.st.correction ∧ s.st.phase.counted? = some .grace) :
    countSpeech s = seatLift { s with st := { s.st with
      remaining := r, correction := 0, phase := s.st.phase.withCounted .running } } := by
  simp only [countSpeech, hr]
  rw [if_neg hpos, if_pos hlift]

/-- R138: a count that leaves 0 is the expiry. -/
theorem countSpeech_of_zero {s : State} (hr : tickRemaining s.st = some 0) :
    countSpeech s = expire { s with st := { s.st with remaining := 0, correction := 0 } } := by
  simp only [countSpeech, hr, if_true]

/-- The state whose speech is one tick longer (R137 step 1). -/
def elapsedOn (s : State) : State := { s with st := { s.st with elapsed := min 65535 (s.st.elapsed + 1) } }

theorem speechTick_of_speaking {s : State} (h : s.st.speaking = true) : speechTick s = countSpeech (elapsedOn s) :=
  if_pos h

/-- R45, R128: the warning and its lift post their event and place a HOLD. -/
theorem seatLift_of_warned {s : State} {o : OwnLane} (hseat : s.seat = .warned o)
    (hpending : s.flags.restartPending = false) :
    seatLift s = post .sa (.live o.lane) { s with
      seat := .live o
      sq := if s.flying .hold then { s.sq with holdHeld := true } else { s.sq with hold := some (s.sq.hold.getD 0) } } := by
  simp only [seatLift, hseat]
  rw [placeHold_of_speaking (h := o) (by rfl) (by exact hpending)]
  show (if s.flying .hold = true then _ else _) = _
  split <;> rfl

theorem seatWarning_of_live {s : State} {o : OwnLane} (hseat : s.seat = .live o)
    (hpending : s.flags.restartPending = false) :
    seatWarning s = post .sa (.warned o.lane) { s with
      seat := .warned o
      sq := if s.flying .hold then { s.sq with holdHeld := true } else { s.sq with hold := some (s.sq.hold.getD 0) } } := by
  simp only [seatWarning, hseat]
  rw [placeHold_of_speaking (h := o) (by rfl) (by exact hpending)]
  show (if s.flying .hold = true then _ else _) = _
  split <;> rfl

/-- Settles O42, by the phase and the correction that waits. -/
theorem speechTickCountsOrCorrects : Obligations.SpeechTickCountsOrCorrects := by
  intro s hs hspeaking
  refine gives_of_event (f := speechTick) hs rfl ?_
  rw [speechTick_of_speaking hspeaking]
  intro sum
  refine ⟨fun hidle => ?idle, fun c hpaused hcorrection => ?paused, fun c hcounting hcorrection hleft => ?counting,
    fun hphase hruns hcorrection hsum => ?corrected, fun o hgrace hcorrection hsum hseat hpending => ?lifted⟩
  case idle =>
    have hcount : countSpeech (elapsedOn s) = elapsedOn s := by
      simp [countSpeech, tickRemaining, elapsedOn, hidle]
    rw [hcount, flush_of_empty (by exact hs.2)]
    rfl
  case paused =>
    have hcount : countSpeech (elapsedOn s) = elapsedOn s := by
      rw [countSpeech, tickRemaining_of_paused (st := (elapsedOn s).st) hpaused hcorrection]
    rw [hcount, flush_of_empty (by exact hs.2), elapsedOn, ← hcorrection]
  case counting =>
    rw [countSpeech_of_left (s := elapsedOn s) (tickRemaining_of_counting (c := c) hcounting hcorrection)
      (by show s.st.remaining - 1 ≠ 0; omega) (by rintro ⟨h, -⟩; exact absurd hcorrection h.ne'), flush_of_empty (by exact hs.2)]
    rw [← hcorrection]
    rfl
  case corrected =>
    obtain ⟨hremaining, hpos⟩ := correctRemaining_of_pos hsum
    have hlift : ¬ (0 < s.st.correction ∧ s.st.phase.counted? = some .grace) := by
      rintro ⟨hpositive, hcounted⟩
      obtain h | h | h := hphase
      · rw [h] at hcounted; cases hcounted
      · rw [h] at hcounted; cases hcounted
      · omega
    rw [countSpeech_of_left (s := elapsedOn s) (tickRemaining_of_correction hruns hcorrection) hpos hlift,
      flush_of_empty (by exact hs.2)]
    show { elapsedOn s with st := { (elapsedOn s).st with
      remaining := correctRemaining s.st.remaining s.st.correction, correction := 0 } } = _
    rw [hremaining]
    rfl
  case lifted =>
    obtain ⟨hremaining, hpos⟩ := correctRemaining_of_pos hsum
    have hcounted : s.st.phase.counted? = some .grace := by obtain h | h := hgrace <;> rw [h] <;> rfl
    have hruns : s.st.phase ≠ .idle := by obtain h | h := hgrace <;> rw [h] <;> simp
    have hphase : s.st.phase.withCounted .running =
        if s.st.phase = .counting .grace then .counting .running else .paused .running := by
      obtain h | h := hgrace <;> rw [h] <;> rfl
    rw [countSpeech_of_lift (s := elapsedOn s) (tickRemaining_of_correction hruns hcorrection.ne') hpos
      ⟨hcorrection, hcounted⟩, seatLift_of_warned (o := o) (by exact hseat) (by exact hpending), flush_post _ _ (by exact hs.2)]
    refine ⟨rfl, ?_, rfl, rfl⟩
    show { s.st with
      elapsed := min 65535 (s.st.elapsed + 1), remaining := correctRemaining s.st.remaining s.st.correction,
      correction := 0, phase := s.st.phase.withCounted .running : SpeechTimer } = _
    rw [hremaining, hphase]

/-- R138: an expiry without grace, or of the grace, is a yield. -/
theorem expire_of_last {s : State} {c : Counted} (hcounted : s.st.phase.counted? = some c)
    (h : c = .grace ∨ s.st.speechGrace = 0) : expire s = yieldLane .time s := by
  unfold expire
  cases c with
  | grace => rw [hcounted]
  | running =>
    have hnone : ¬ 0 < s.st.speechGrace := by simpa using h
    rw [hcounted]
    exact if_neg hnone

/-- R144: the timer at the end of a speech. -/
theorem speechEnd_of_speaking {s : State} (h : s.st.speaking = true) :
    speechEnd s = { s with
      st := { s.st with lastSpeech := s.st.elapsed, speaking := false, phase := .idle, remaining := 0, speechGrace := 0,
                        correction := 0, elapsed := 0 }
      gc := { s.gc with gateDelay := .stopped } } := by
  simp [speechEnd, h]

/-- Settles O43: the expiry due is `expire`, by the phase counted. -/
theorem speechExpiryWarnsOrYields : Obligations.SpeechExpiryWarnsOrYields := by
  intro c o s hs hspeaking hpending hdue
  have hcounted : s.st.phase.counted? = some c := by
    obtain ⟨h, -⟩ | ⟨h, -⟩ := hdue <;> rw [h] <;> rfl
  have hzero : tickRemaining s.st = some 0 := by
    obtain ⟨hphase, ⟨hc, hr⟩ | ⟨hc, hsum⟩⟩ | ⟨hphase, hc, hsum⟩ := hdue
    · rw [tickRemaining_of_counting hphase hc, Nat.sub_eq_zero_of_le hr]
    · rw [tickRemaining_of_correction (by simp [hphase]) hc, correctRemaining_of_nonpos hsum]
    · rw [tickRemaining_of_correction (by simp [hphase]) hc, correctRemaining_of_nonpos hsum]
  have heffect : speechExpiry s = expire { s with st := { s.st with remaining := 0, correction := 0 } } :=
    (if_pos ⟨hspeaking, hzero⟩).trans (countSpeech_of_zero hzero)
  refine gives_of_event (f := speechExpiry) hs rfl ⟨fun hc hgrace hseat => ?warns, fun hlast hseat hfree => ?yields, ?tick⟩
  case warns =>
    subst hc
    have hwarn : speechExpiry s = seatWarning { s with st := { s.st with
        remaining := s.st.speechGrace, correction := 0, phase := s.st.phase.withCounted .grace } } := by
      rw [heffect, expire]
      simp only [hcounted]
      exact if_pos hgrace
    have hphase : s.st.phase.withCounted .grace =
        if s.st.phase = .counting .running then .counting .grace else .paused .grace := by
      obtain ⟨h, -⟩ | ⟨h, -⟩ := hdue <;> rw [h] <;> rfl
    rw [hwarn, seatWarning_of_live (o := o) (by exact hseat) (by exact hpending), flush_post _ _ (by exact hs.2)]
    refine ⟨rfl, ?_, rfl, rfl⟩
    show { s.st with
      remaining := s.st.speechGrace, correction := 0, phase := s.st.phase.withCounted .grace : SpeechTimer } = _
    rw [hphase]
  case yields =>
    have hyield : speechExpiry s = _ := heffect.trans (expire_of_last (c := c) hcounted hlast)
    rw [hyield, yieldLane_of_speaking (h := o) .time (by exact hseat), speechEnd_of_speaking (by exact hspeaking),
      placeFloor_of_free _ (by exact hfree), flush_of_empty (by exact hs.2)]
  case tick =>
    show event speechTick s = event speechExpiry (elapsedOn s)
    rw [event_of_high _ hs.1, event_of_high _ (show (elapsedOn s).resetLow = false from hs.1),
      speechTick_of_speaking hspeaking]
    exact congrArg (fun u => Host.Outcome.next (flush u)) (if_pos ⟨hspeaking, hzero⟩).symm

end Sys2Proof.Instant
end

section

/-! The Voice Unit: the two completions of the detector, and a sample with the counters it moves and the trim it feeds (R114,
R128, R147 to R155). -/

namespace Sys2Proof.Instant

open Sys2Proof Sys2Proof.Machine

-- One proof at a time: the text is compiled in bounded memory.
set_option Elab.async false

/-! ## The two completions -/

/-- R150: the detector after a completed attack. -/
def attacked (s : State) : State := { s with vu := { s.vu with attack := 40, release := 0, voiced := true } }

/-- R150: the detector after a completed release. -/
def released (s : State) : State :=
  { s with vu := { s.vu with attack := 0, release := s.prof.releaseHold, voiced := false } }

/-- R150, R152: the sample or step that completes an attack in QUIET. -/
theorem countAttack_of_last {s : State} (hattack : s.vu.attack = 39) (hquiet : s.vu.voiced = false) :
    countAttack s = if s.attackReported then voiceAttack (attacked s) else attacked s := by
  have hlast : s.vu.attack + 1 = 40 := by omega
  unfold countAttack
  rw [if_pos hlast, hlast]
  unfold attackDone
  rw [if_neg (by simp [hquiet])]
  rfl

theorem countRelease_of_last {s : State} (h : s.vu.release + 1 = s.prof.releaseHold) :
    countRelease s = voiceRelease (released s) := by
  unfold countRelease
  rw [if_pos h, h, Nat.min_self]
  rfl

/-- R152: the counter's rise alone, where no attack is reported. -/
theorem countAttack_of_unreported {s : State}
    (h : s.vu.attack + 1 = 40 → s.vu.voiced = true ∨ s.attackReported = false) :
    countAttack s = { s with vu := (countAttack s).vu } := by
  by_cases hlast : s.vu.attack + 1 = 40
  · unfold countAttack
    rw [if_pos hlast]
    unfold attackDone
    split
    · rfl
    next hquiet =>
      have hunreported := (h hlast).resolve_left hquiet
      rw [if_neg]
      exact (Bool.eq_false_iff.mp hunreported : ¬ s.attackReported = true)
  · unfold countAttack
    rw [if_neg hlast]

theorem countRelease_of_short {s : State} (h : s.vu.release + 1 ≠ s.prof.releaseHold) :
    countRelease s = { s with vu := (countRelease s).vu } := by
  unfold countRelease
  rw [if_neg h]

/-- R112: a take at a seat without a running trim. -/
theorem beginTake_of_no_trim {s : State} (t : IntendedTake) (h : s.vu.trim = none) :
    beginTake t s = placeFloor .take { s with seat := .taking t } := by
  simp [beginTake, enterTaking, abortTrim, h]

/-- R114: an attack reported to an IDLE seat outside the wait of a restart. -/
theorem voiceAttack_of_idle {s : State} (hseat : s.seat = .idle) (hpending : s.flags.restartPending = false) :
    voiceAttack s = match attackDecision s with
      | .take lane displace => beginTake (s.newTake .voice lane displace) s
      | .noLane => if s.role = .priority then refuse .noLane s else signalRefusal s
      | _ => s :=
  if_pos ⟨hseat, by simp [hpending]⟩

theorem voiceAttack_of_busy {s : State} (hseat : s.seat ≠ .idle) : voiceAttack s = s :=
  if_neg fun h => hseat h.1

/-- R114: the take of a voice attack. -/
def voiceTake (lane : Fin 8) (displace : Bool) : IntendedTake :=
  { kind := .voice, lane := lane, key := 0, displace := displace, muting := false, mode := .voice, grantor := 0 }
theorem voiceAttack_of_take {s : State} {lane : Fin 8} {displace : Bool} (hseat : s.seat = .idle)
    (hpending : s.flags.restartPending = false) (htrim : s.vu.trim = none) (hmode : s.order.mode = .voice)
    (h : attackDecision s = .take lane displace) :
    voiceAttack s = placeFloor .take { s with seat := .taking (voiceTake lane displace) } := by
  rw [voiceAttack_of_idle hseat hpending, h]
  dsimp only
  rw [beginTake_of_no_trim _ htrim, State.newTake, hmode]
  rfl

theorem flush_placeFloor_take {s : State} (ho : s.outbox = []) (k : IntendedTake) :
    (flush (placeFloor .take { s with seat := .taking k })).seat = .taking k ∧
      (s.flying .floor = false → (flush (placeFloor .take { s with seat := .taking k })).sq =
        { s.sq with floor := some { content := .take, count := 0 } }) := by
  refine ⟨by simp, fun hfree => ?_⟩
  rw [placeFloor_of_free _ (by exact hfree), flush_of_empty (by exact ho)]

/-- R114: the decision of an attack at a delegate. -/
theorem attackDecision_of_delegate {s : State} (h : s.role = .delegate) :
    attackDecision s = match s.freeLanes with
      | lane :: _ => if s.delegateLanes < s.order.laneLimit then .take lane false else .noLane
      | [] => .noLane := by
  have hroom : 1 ≤ s.room ↔ s.delegateLanes < s.order.laneLimit := by unfold State.room; omega
  have hdecision : attackDecision s = takeInRoom .noLane s := by simp [attackDecision, h]
  refine hdecision.trans ?_
  unfold takeInRoom
  cases s.freeLanes with
  | nil => rfl
  | cons lane rest => exact if_congr hroom rfl rfl

theorem attackDecision_of_priority {s : State} (h : s.role = .priority) :
    attackDecision s = match s.freeLanes, s.oldestLane [.delegate] with
      | lane :: _, _ => .take lane false
      | [], some i => .take i true
      | [], none => .noLane := by
  have hdecision : attackDecision s = takeOrDisplace [.delegate] s := by simp [attackDecision, h, priorityDecision]
  exact hdecision.trans (takeOrDisplace_eq _ s)

theorem attackReported_iff {s : State} :
    s.attackReported = true ↔
      s.isDelegateSeat = true ∧ s.order.mode = .voice ∧ s.flags.cough = false ∧ s.vu.trim = none := by
  simp [State.attackReported, and_assoc]

/-- R114, R152: the end of the instant at which an attack is reported at an IDLE seat, by the decision. -/
theorem flush_voiceAttack_of_take {s : State} {lane : Fin 8} {displace : Bool} (ho : s.outbox = []) (hseat : s.seat = .idle)
    (hpending : s.flags.restartPending = false) (htrim : s.vu.trim = none) (hmode : s.order.mode = .voice)
    (h : attackDecision s = .take lane displace) :
    (flush (voiceAttack s)).seat = .taking (voiceTake lane displace) ∧
    (s.flying .floor = false →
      (flush (voiceAttack s)).sq = { s.sq with floor := some { content := .take, count := 0 } }) := by
  rw [voiceAttack_of_take hseat hpending htrim hmode h]
  exact flush_placeFloor_take ho _

/-- R128, R152: a release at a seat that took its lane by voice. -/
theorem voiceRelease_of_voice {s : State} {o : OwnLane} (hseat : s.seat.speaking? = some o) (h : o.tookBy = .voice) :
    voiceRelease s = yieldLane .voice s := by
  simp [voiceRelease, hseat, h]

theorem voiceRelease_of_other {s : State} (h : ∀ o, s.seat.speaking? = some o → o.tookBy ≠ .voice) :
    voiceRelease s = s := by
  unfold voiceRelease
  split
  next o ho => exact if_neg (h o ho)
  next => rfl

theorem yieldLane_of_free {s : State} {o : OwnLane} (r : YieldReason) (hseat : s.seat.speaking? = some o)
    (hfree : s.flying .floor = false) :
    yieldLane r s = { speechEnd s with
      seat := .yielding o r, sq := { s.sq with floor := some { content := .yield o.lane r, count := 0 } } } := by
  rw [yieldLane_of_speaking r hseat, placeFloor_of_free _ (by simpa [State.flying] using hfree)]
  simp

theorem flush_seat (s : State) : (flush s).seat = s.seat := by simp

theorem flush_vu (s : State) : (flush s).vu = s.vu := by simp

theorem gateOpen_of_silent {s : State} (h : s.seat.speaking? = none) : s.gateOpen = false := by
  simp [State.gateOpen, h]

theorem yieldLane_seat {s : State} {o : OwnLane} (r : YieldReason) (hseat : s.seat.speaking? = some o) :
    (yieldLane r s).seat = .yielding o r := by
  rw [yieldLane_of_speaking r hseat]

/-- Settles O46, by the role for an attack and by the took-by for a release. -/
theorem voiceCompletionsTakeAndYieldTheLane : Obligations.VoiceCompletionsTakeAndYieldTheLane := by
  intro s hs hcough
  refine ⟨fun hattack hquiet hpending => ?attack, fun hrelease => ?release⟩
  case attack =>
    have heffect : attackCompletion s = if s.attackReported then voiceAttack (attacked s) else attacked s :=
      (if_pos ⟨by simp [hcough], by omega⟩).trans (countAttack_of_last hattack hquiet)
    have ho : (attacked s).outbox = [] := hs.2
    have hvu : (flush (attackCompletion s)).vu = (attacked s).vu := by
      rw [flush_vu, heffect]
      split
      next hreported => exact Envelope.voiceAttack_vu (attackReported_iff.mp hreported).2.2.2
      next => rfl
    have hquietState : attackCompletion s = attacked s →
        flush (attackCompletion s) = { s with vu := (flush (attackCompletion s)).vu } := by
      intro h
      rw [hvu, h, flush_of_empty ho]
      rfl
    refine gives_of_event (f := attackCompletion) hs rfl ⟨hvu, fun hrole hmode htrim hseat => ?_,
      fun hrole hmode htrim hseat => ?_, fun hother => hquietState ?_⟩
    · have hreported : s.attackReported = true := attackReported_iff.mpr ⟨by simp [State.isDelegateSeat, hrole], hmode, hcough, htrim⟩
      have hdecision := attackDecision_of_delegate (s := attacked s) hrole
      have hrefused : attackDecision (attacked s) = .noLane →
          flush (attackCompletion s) = { s with vu := (flush (attackCompletion s)).vu, flash := .running 2000 } := by
        intro h
        rw [hvu, heffect, if_pos hreported, voiceAttack_of_idle (by exact hseat) (by exact hpending), h]
        dsimp only
        rw [if_neg (by simp [attacked, hrole]), flush_of_empty (by exact hs.2)]
        rfl
      have hfree : (attacked s).freeLanes = s.freeLanes := rfl
      rw [hfree] at hdecision
      split
      next lane rest hlanes =>
        rw [hlanes] at hdecision
        dsimp only at hdecision
        split
        next hroom =>
          rw [if_pos (by exact hroom)] at hdecision
          rw [heffect, if_pos hreported]
          exact flush_voiceAttack_of_take ho hseat hpending htrim hmode hdecision
        next hfull =>
          rw [if_neg (by exact hfull)] at hdecision
          exact hrefused hdecision
      next hlanes =>
        rw [hlanes] at hdecision
        exact hrefused hdecision
    · have hreported : s.attackReported = true := attackReported_iff.mpr ⟨by simp [State.isDelegateSeat, hrole], hmode, hcough, htrim⟩
      have hdecision : attackDecision (attacked s) = match s.freeLanes, s.oldestLane [.delegate] with
        | lane :: _, _ => .take lane false
        | [], some i => .take i true
        | [], none => .noLane := attackDecision_of_priority (s := attacked s) hrole
      rw [hvu, heffect, if_pos hreported]
      split
      next lane rest hlanes =>
        rw [hlanes] at hdecision
        exact flush_voiceAttack_of_take ho hseat hpending htrim hmode hdecision
      next i hlanes holdest =>
        rw [hlanes, holdest] at hdecision
        exact flush_voiceAttack_of_take ho hseat hpending htrim hmode hdecision
      next hlanes holdest =>
        rw [hlanes, holdest] at hdecision
        rw [voiceAttack_of_idle (by exact hseat) (by exact hpending), hdecision]
        dsimp only
        rw [if_pos (by exact hrole), flush_refuse _ ho]
        rfl
    · rw [heffect]
      split
      next hreported =>
        obtain ⟨hdelegate, hmode, -, htrim⟩ := attackReported_iff.mp hreported
        refine voiceAttack_of_busy ?_
        obtain hrole | hmode' | htrim' | hseat := hother
        · simp [State.isDelegateSeat, hrole] at hdelegate
        · exact absurd hmode hmode'
        · exact absurd htrim htrim'
        · exact hseat
      next => rfl
  case release =>
    have heffect : releaseCompletion s = voiceRelease (released s) :=
      (if_pos ⟨by simp [hcough], hrelease⟩).trans (countRelease_of_last hrelease)
    have hvu : (flush (releaseCompletion s)).vu = (released s).vu := by
      rw [heffect]
      simp
    refine gives_of_event (f := releaseCompletion) hs rfl ⟨hvu, fun o hseat hvoice => ?_, fun hother => ?_⟩
    · rw [heffect, voiceRelease_of_voice (o := o) (by exact hseat) hvoice]
      have hyields : (flush (yieldLane .voice (released s))).seat = .yielding o .voice := by
        rw [flush_seat]
        exact yieldLane_seat _ hseat
      refine ⟨hyields, gateOpen_of_silent (by rw [hyields]; rfl), fun hfree => ?_⟩
      rw [yieldLane_of_free (o := o) .voice (by exact hseat) (by exact hfree)]
      simp [released]
    · rw [hvu, heffect, voiceRelease_of_other (by exact hother), flush_of_empty (by exact hs.2)]
      rfl

end Sys2Proof.Instant
end

section

/-! LEVEL_SAMPLE: the counters it moves by the level, and the trim it feeds (R147, R149 to R152, R155). -/

namespace Sys2Proof.Instant

open Sys2Proof Sys2Proof.Machine

-- One proof at a time: the text is compiled in bounded memory.
set_option Elab.async false

/-! ## The regions of the level -/

/-- R149, R151: both counters at 0. -/
def stilled (s : State) : State := { s with vu := { s.vu with attack := 0, release := 0 } }

/-- R149: the level moves the attack counter. -/
def Attacks (s : State) : Prop := s.flags.cough = false ∧ s.vu.threshold ≤ s.level

/-- R149: the level moves the release counter. -/
def Releases (s : State) : Prop := s.flags.cough = false ∧ s.level < s.lowerThreshold

/-- R149: the two thresholds stand in their order. -/
theorem lowerThreshold_le {s : State} (h : 1 ≤ s.vu.threshold) : s.lowerThreshold ≤ s.vu.threshold := by
  unfold State.lowerThreshold
  omega

/-- R149, R151: a sample raises one counter, or stills both. -/
theorem moveCounters_cases {s : State} (h : 1 ≤ s.vu.threshold) :
    (Attacks s ∧ ¬ Releases s ∧ moveCounters s = countAttack s) ∨
    (Releases s ∧ ¬ Attacks s ∧ moveCounters s = countRelease s) ∨
    (¬ Attacks s ∧ ¬ Releases s ∧ moveCounters s = stilled s) := by
  have hlower := lowerThreshold_le h
  unfold Attacks Releases moveCounters
  cases hcough : s.flags.cough with
  | true => exact .inr (.inr ⟨by simp, by simp, by simp [stilled]⟩)
  | false =>
    by_cases hhigh : s.vu.threshold ≤ s.level
    · exact .inl ⟨⟨rfl, hhigh⟩, by omega, by simp [hhigh]⟩
    · by_cases hmiddle : s.lowerThreshold ≤ s.level
      · exact .inr (.inr ⟨by simpa using hhigh, by omega, by simp [hhigh, hmiddle, stilled]⟩)
      · exact .inr (.inl ⟨⟨rfl, by omega⟩, by simpa using hhigh, by simp [hhigh, hmiddle]⟩)

/-- R149, R150, R152: the record of the Voice Unit after the counters have moved. -/
theorem moveCounters_vu {s : State} (h : 1 ≤ s.vu.threshold) :
    (moveCounters s).vu.trim = s.vu.trim ∧
    (Attacks s → (moveCounters s).vu = { s.vu with
      attack := min 40 (s.vu.attack + 1), release := 0, voiced := s.vu.voiced || decide (s.vu.attack + 1 = 40) }) ∧
    (Releases s → (moveCounters s).vu = { s.vu with
      attack := 0, release := min s.prof.releaseHold (s.vu.release + 1),
      voiced := s.vu.voiced && !decide (s.vu.release + 1 = s.prof.releaseHold) }) ∧
    (¬ Attacks s → ¬ Releases s → (moveCounters s).vu = { s.vu with attack := 0, release := 0 }) := by
  obtain ⟨ha, hr, heq⟩ | ⟨hr, ha, heq⟩ | ⟨ha, hr, heq⟩ := moveCounters_cases h <;> rw [heq]
  · rw [Envelope.countAttack_vu]
    exact ⟨rfl, fun _ => rfl, fun h => absurd h hr, fun h => absurd ha h⟩
  · rw [Envelope.countRelease_vu]
    exact ⟨rfl, fun h => absurd h ha, fun _ => rfl, fun _ h => absurd hr h⟩
  · exact ⟨rfl, fun h => absurd h ha, fun h => absurd h hr, fun _ _ => rfl⟩

/-- R150, R152: without a completion that acts, a sample changes nothing but the Voice Unit's record. -/
theorem moveCounters_of_quiet {s : State} (h : 1 ≤ s.vu.threshold)
    (hrelease : ¬ (Releases s ∧ s.vu.release + 1 = s.prof.releaseHold))
    (hattack : Attacks s → s.vu.attack + 1 = 40 → s.vu.voiced = true ∨ s.attackReported = false) :
    moveCounters s = { s with vu := (moveCounters s).vu } := by
  obtain ⟨ha, -, heq⟩ | ⟨hr, -, heq⟩ | ⟨-, -, heq⟩ := moveCounters_cases h <;> rw [heq]
  · exact countAttack_of_unreported (hattack ha)
  · exact countRelease_of_short fun hlast => hrelease ⟨hr, hlast⟩
  · rfl

/-- R150, R152: the sample that completes a release reports it. -/
theorem moveCounters_of_release {s : State} (h : 1 ≤ s.vu.threshold)
    (hrelease : Releases s ∧ s.vu.release + 1 = s.prof.releaseHold) : moveCounters s = voiceRelease (released s) := by
  obtain ⟨-, hr, -⟩ | ⟨-, -, heq⟩ | ⟨-, hr, -⟩ := moveCounters_cases h
  · exact absurd hrelease.1 hr
  · rw [heq, countRelease_of_last hrelease.2]
  · exact absurd hrelease.1 hr

/-- R155: a trim that runs shuts the reports of attacks out, and no report posts anything. -/
theorem moveCounters_of_trim {s : State} (h : 1 ≤ s.vu.threshold) (htrim : s.vu.trim.isSome = true) :
    (moveCounters s).outbox = s.outbox ∧ (moveCounters s).pp = s.pp ∧ (moveCounters s).viewTicks = s.viewTicks := by
  by_cases hrelease : Releases s ∧ s.vu.release + 1 = s.prof.releaseHold
  · rw [moveCounters_of_release h hrelease]
    simp [released]
  · have hunreported : s.attackReported = false := by
      cases htr : s.vu.trim <;> simp_all [State.attackReported]
    rw [moveCounters_of_quiet h hrelease fun _ _ => .inr hunreported]
    exact ⟨rfl, rfl, rfl⟩

/-! ## The trim -/

/-- R155: what a trim leaves of the record and of the rest of the station. -/
theorem moveTrim_keeps (s : State) :
    (moveTrim s).vu.attack = s.vu.attack ∧ (moveTrim s).vu.release = s.vu.release ∧
    (moveTrim s).vu.voiced = s.vu.voiced ∧ (moveTrim s).seat = s.seat ∧ (moveTrim s).sq = s.sq ∧
    (moveTrim s).st = s.st ∧ (moveTrim s).flash = s.flash := by
  unfold moveTrim
  split
  · simp
  · dsimp only
    split <;> simp

theorem moveTrim_of_none {s : State} (h : s.vu.trim = none) : moveTrim s = s := by
  simp [moveTrim, h]

theorem moveTrim_of_running {s : State} {tr : Trim} (h : s.vu.trim = some tr) (hcount : tr.count < 2047) :
    moveTrim s = { s with vu := { s.vu with trim := some { count := tr.count + 1, sum := tr.sum + s.level } } } := by
  have hleft : ¬ 2048 ≤ tr.count + 1 := by omega
  simp [moveTrim, h, hleft]

theorem moveTrim_of_last {s : State} {tr : Trim} (h : s.vu.trim = some tr) (hcount : tr.count = 2047) :
    moveTrim s = post .vu (.trimDone (min 255 ((tr.sum + s.level) / 2048 + s.prof.trimMargin)))
      { s with vu := { s.vu with
          threshold := min 255 ((tr.sum + s.level) / 2048 + s.prof.trimMargin), trim := none } } := by
  simp [moveTrim, h, hcount]

/-! ## The sample -/

/-- R148: the station with the envelope after a sample. -/
def sampled (x : BitVec 8) (s : State) : State :=
  { s with vu := { s.vu with envelope := stepEnvelope s.vu.envelope x.toNat } }

theorem levelSample_eq (x : BitVec 8) (s : State) : levelSample x s = moveTrim (moveCounters (sampled x s)) := rfl

theorem moveCounters_level (s : State) : (moveCounters s).level = s.level := by
  unfold State.level
  rw [(Envelope.moveCounters_keeps s).1]

/-- R150: the detector state after the counters have moved. -/
theorem moveCounters_voiced {s : State} (h : 1 ≤ s.vu.threshold) :
    (Attacks s ∧ s.vu.attack = 39 → (moveCounters s).vu.voiced = true) ∧
    (Releases s ∧ s.vu.release + 1 = s.prof.releaseHold → (moveCounters s).vu.voiced = false) ∧
    (¬ (Attacks s ∧ s.vu.attack = 39) → ¬ (Releases s ∧ s.vu.release + 1 = s.prof.releaseHold) →
      (moveCounters s).vu.voiced = s.vu.voiced) := by
  obtain ⟨-, hattacks, hreleases, hstill⟩ := moveCounters_vu h
  refine ⟨fun ⟨ha, hlast⟩ => by rw [hattacks ha, hlast]; simp, fun ⟨hr, hlast⟩ => by rw [hreleases hr, hlast]; simp,
    fun hna hnr => ?_⟩
  by_cases ha : Attacks s
  · have hshort : ¬ s.vu.attack + 1 = 40 := fun hlast => hna ⟨ha, Nat.succ_injective hlast⟩
    rw [hattacks ha]
    simp [hshort]
  · by_cases hr : Releases s
    · have hshort : ¬ s.vu.release + 1 = s.prof.releaseHold := fun hlast => hnr ⟨hr, hlast⟩
      rw [hreleases hr]
      simp [hshort]
    · rw [hstill ha hr]

theorem moveCounters_profile (s : State) : (moveCounters s).profile = s.profile := by
  have attackDone_profile (u : State) : (attackDone u).profile = u.profile := by
    unfold attackDone
    split
    · rfl
    · dsimp only
      split <;> simp
  unfold moveCounters countAttack countRelease releaseDone
  repeat' split
  all_goals simp [attackDone_profile]

/-- R150: without a trim the sample that completes an attack is ATTACK_COMPLETION on the envelope after it. -/
theorem levelSample_of_attack {x : BitVec 8} {s : State} (hth : 1 ≤ s.vu.threshold) (htrim : s.vu.trim = none)
    (ha : Attacks (sampled x s)) (hlast : s.vu.attack = 39) : levelSample x s = attackCompletion (sampled x s) := by
  have hcounts : attackCompletion (sampled x s) = countAttack (sampled x s) :=
    if_pos ⟨by simp [ha.1], by show s.vu.attack + 1 = 40; omega⟩
  have hmoves : moveCounters (sampled x s) = countAttack (sampled x s) := by
    obtain ⟨-, -, heq⟩ | ⟨-, hna, -⟩ | ⟨hna, -, -⟩ := moveCounters_cases (s := sampled x s) hth
    · exact heq
    · exact absurd ha hna
    · exact absurd ha hna
  rw [levelSample_eq, moveTrim_of_none ((moveCounters_vu (s := sampled x s) hth).1.trans htrim), hmoves, hcounts]

/-- R150: and the one that completes a release is RELEASE_COMPLETION. -/
theorem levelSample_of_release {x : BitVec 8} {s : State} (hth : 1 ≤ s.vu.threshold) (htrim : s.vu.trim = none)
    (hr : Releases (sampled x s)) (hlast : s.vu.release + 1 = s.prof.releaseHold) :
    levelSample x s = releaseCompletion (sampled x s) := by
  have hcounts : releaseCompletion (sampled x s) = countRelease (sampled x s) := if_pos ⟨by simp [hr.1], hlast⟩
  rw [levelSample_eq, moveTrim_of_none ((moveCounters_vu (s := sampled x s) hth).1.trans htrim),
    moveCounters_of_release (s := sampled x s) hth ⟨hr, hlast⟩, hcounts, countRelease_of_last (s := sampled x s) hlast]

/-- R150, R152: no completion that acts comes about at this sample. -/
def QuietSample (x : BitVec 8) (s : State) : Prop :=
  ¬ (Releases (sampled x s) ∧ s.vu.release + 1 = s.prof.releaseHold) ∧
    (¬ (Attacks (sampled x s) ∧ s.vu.attack = 39) ∨ s.vu.voiced = true ∨ s.vu.trim.isSome = true)

theorem moveCounters_of_quietSample {x : BitVec 8} {s : State} (hth : 1 ≤ s.vu.threshold) (h : QuietSample x s) :
    moveCounters (sampled x s) = { s with vu := (moveCounters (sampled x s)).vu } := by
  obtain ⟨hr, hno⟩ := h
  refine moveCounters_of_quiet (s := sampled x s) hth hr fun ha hlast => ?_
  obtain hno | hvoiced | htrim := hno
  · exact absurd ⟨ha, Nat.succ_injective hlast⟩ hno
  · exact .inl hvoiced
  · exact .inr (by cases htr : s.vu.trim <;> simp_all [State.attackReported, sampled])

/-- R155: the instant of a sample with a trim that runs. -/
theorem flush_levelSample_of_trim {x : BitVec 8} {s : State} {tr : Trim} (hth : 1 ≤ s.vu.threshold) (ho : s.outbox = [])
    (htr : s.vu.trim = some tr) :
    (tr.count < 2047 →
      (flush (levelSample x s)).vu.trim = some { count := tr.count + 1, sum := tr.sum + (sampled x s).level } ∧
      (flush (levelSample x s)).vu.threshold = s.vu.threshold ∧ (flush (levelSample x s)).pp = s.pp) ∧
    (tr.count = 2047 →
      (flush (levelSample x s)).vu.trim = none ∧
      (flush (levelSample x s)).vu.threshold = min 255 ((tr.sum + (sampled x s).level) / 2048 + s.prof.trimMargin) ∧
      s.Posts (flush (levelSample x s))
        [.trimDone (min 255 ((tr.sum + (sampled x s).level) / 2048 + s.prof.trimMargin))]) := by
  have htr' : (moveCounters (sampled x s)).vu.trim = some tr := (moveCounters_vu (s := sampled x s) hth).1.trans htr
  obtain ⟨ho', hpp, hticks⟩ := moveCounters_of_trim (s := sampled x s) hth (by simp [sampled, htr])
  have hempty : (moveCounters (sampled x s)).outbox = [] := ho'.trans ho
  have hprof : (moveCounters (sampled x s)).prof = s.prof := congrArg profileOf (moveCounters_profile _)
  refine ⟨fun hcount => ?_, fun hcount => ?_⟩
  · rw [← moveCounters_level, levelSample_eq, moveTrim_of_running htr' hcount, flush_of_empty (by exact hempty)]
    exact ⟨rfl, (Envelope.moveCounters_keeps _).2, hpp⟩
  · rw [← moveCounters_level, levelSample_eq, moveTrim_of_last htr' hcount, flush_post _ _ (by exact hempty), hprof]
    refine ⟨rfl, rfl, [_], .refl _, ?_⟩
    show enqueueEvent _ (moveCounters (sampled x s)).pp.reading (moveCounters (sampled x s)).pp.events _ = _
    rw [hpp]
    rfl

/-- The record of the Voice Unit and the seat at the end of a sample, as the counters leave them. -/
theorem flush_levelSample_keeps (x : BitVec 8) (s : State) :
    (flush (levelSample x s)).vu.attack = (moveCounters (sampled x s)).vu.attack ∧
    (flush (levelSample x s)).vu.release = (moveCounters (sampled x s)).vu.release ∧
    (flush (levelSample x s)).vu.voiced = (moveCounters (sampled x s)).vu.voiced ∧
    (flush (levelSample x s)).seat = (moveCounters (sampled x s)).seat ∧
    (flush (levelSample x s)).sq = (moveCounters (sampled x s)).sq ∧
    (flush (levelSample x s)).st = (moveCounters (sampled x s)).st ∧
    (flush (levelSample x s)).flash = (moveCounters (sampled x s)).flash := by
  simp only [flush_keeps, levelSample_eq, moveTrim_keeps, and_self]

theorem flush_levelSample_envelope (x : BitVec 8) (s : State) :
    (flush (levelSample x s)).vu.envelope = stepEnvelope s.vu.envelope x.toNat := by
  rw [flush_vu, Envelope.levelSample_envelope]

theorem flush_levelSample_level (x : BitVec 8) (s : State) :
    (flush (levelSample x s)).level = (sampled x s).level := by
  unfold State.level
  rw [flush_levelSample_envelope]
  rfl

/-- R149, R151: the counters at the end of a sample, by the region of the level. -/
theorem flush_levelSample_counters {x : BitVec 8} {s : State} (hth : 1 ≤ s.vu.threshold) :
    (Attacks (sampled x s) →
      (flush (levelSample x s)).vu.attack = min 40 (s.vu.attack + 1) ∧ (flush (levelSample x s)).vu.release = 0) ∧
    (Releases (sampled x s) →
      (flush (levelSample x s)).vu.attack = 0 ∧
      (flush (levelSample x s)).vu.release = min s.prof.releaseHold (s.vu.release + 1)) ∧
    (¬ Attacks (sampled x s) → ¬ Releases (sampled x s) →
      (flush (levelSample x s)).vu.attack = 0 ∧ (flush (levelSample x s)).vu.release = 0 ∧
      (flush (levelSample x s)).vu.voiced = s.vu.voiced ∧ (flush (levelSample x s)).seat = s.seat) := by
  obtain ⟨-, hattacks, hreleases, hstill⟩ := moveCounters_vu (s := sampled x s) hth
  obtain ⟨hattack, hrelease, hvoiced, hseat, -⟩ := flush_levelSample_keeps x s
  refine ⟨fun ha => ?_, fun hr => ?_, fun ha hr => ?_⟩
  · rw [hattack, hrelease, hattacks ha]
    exact ⟨rfl, rfl⟩
  · rw [hattack, hrelease, hreleases hr]
    exact ⟨rfl, rfl⟩
  · rw [hattack, hrelease, hvoiced, hseat, hstill ha hr,
      moveCounters_of_quietSample hth ⟨fun h => hr h.1, .inl fun h => ha h.1⟩]
    exact ⟨rfl, rfl, rfl, rfl⟩

/-- Settles O45, by the region of the level, and by the trim. -/
theorem sampleMovesTheDetectorCounters : Obligations.SampleMovesTheDetectorCounters := by
  intro x s hs hvoice
  have hth : 1 ≤ s.vu.threshold := hvoice.2.1.1
  have hlevel := flush_levelSample_level x s
  obtain ⟨hattackCounts, hreleaseCounts, hstill⟩ := flush_levelSample_counters (x := x) hth
  obtain ⟨-, -, hvoiced, hseat, hsq, hst, hflash⟩ := flush_levelSample_keeps x s
  refine gives_of_event (f := levelSample x) hs rfl ⟨rfl, fun hcough => ?cough,
    fun hcough => ⟨fun hhigh => ?high, fun hlow hhigh => ?middle, fun hlow => ?low⟩, ?_⟩
  case cough => exact hstill (fun h => by simp [Attacks, sampled, hcough] at h) (fun h => by simp [Releases, sampled, hcough] at h)
  case high => exact hattackCounts ⟨hcough, hhigh.trans_eq hlevel⟩
  case middle =>
    rw [hlevel] at hlow hhigh
    exact hstill (fun h => absurd hhigh (Nat.not_lt.mpr h.2)) (fun h => absurd h.2 (Nat.not_lt.mpr hlow))
  case low => exact hreleaseCounts ⟨hcough, hlevel.symm.trans_lt hlow⟩
  intro moved attacks releases
  have hmoved : moved = sampled x s := by
    show { s with vu := { s.vu with envelope := (flush (levelSample x s)).vu.envelope } } = _
    rw [flush_levelSample_envelope]
    rfl
  have hattacks : attacks ↔ Attacks (sampled x s) ∧ s.vu.attack = 39 := by
    show (_ ∧ _ ≤ (flush (levelSample x s)).level ∧ _) ↔ _
    rw [hlevel, Attacks, and_assoc]
    exact Iff.rfl
  have hreleases : releases ↔ Releases (sampled x s) ∧ s.vu.release + 1 = s.prof.releaseHold := by
    show (_ ∧ (flush (levelSample x s)).level < _ ∧ _) ↔ _
    rw [hlevel, Releases, and_assoc]
    exact Iff.rfl
  have hhigh : (sampled x s).resetLow = false := hs.1
  obtain ⟨hvoicedOn, hvoicedOff, hvoicedKept⟩ := moveCounters_voiced (s := sampled x s) hth
  refine ⟨?voiced, fun ha htrim => ?attack, fun hr htrim => ?release, fun hr hno htrim => ?quiet, fun htrim => ?trim, ?trims⟩
  case voiced =>
    rw [hvoiced]
    split
    next ha => exact hvoicedOn (hattacks.mp ha)
    next hna =>
      split
      next hr => exact hvoicedOff (hreleases.mp hr)
      next hnr => exact hvoicedKept (fun h => hna (hattacks.mpr h)) (fun h => hnr (hreleases.mpr h))
  case attack =>
    obtain ⟨ha, hlast⟩ := hattacks.mp ha
    rw [hmoved]
    show event (levelSample x) s = event attackCompletion (sampled x s)
    rw [event_of_high _ hs.1, event_of_high _ hhigh, levelSample_of_attack hth htrim ha hlast]
  case release =>
    obtain ⟨hr, hlast⟩ := hreleases.mp hr
    rw [hmoved]
    show event (levelSample x) s = event releaseCompletion (sampled x s)
    rw [event_of_high _ hs.1, event_of_high _ hhigh, levelSample_of_release hth htrim hr hlast]
  case quiet =>
    have hsample : QuietSample x s :=
      ⟨fun h => hr (hreleases.mpr h), hno.imp (fun hna h => hna (hattacks.mpr h)) .inl⟩
    have heffect : levelSample x s = { s with vu := (moveCounters (sampled x s)).vu } := by
      rw [levelSample_eq, moveTrim_of_none ((moveCounters_vu (s := sampled x s) hth).1.trans htrim)]
      exact moveCounters_of_quietSample hth hsample
    rw [heffect, flush_of_empty (by exact hs.2)]
  case trim =>
    have htrim' := (moveCounters_vu (s := sampled x s) hth).1.trans htrim
    rw [flush_vu, levelSample_eq, moveTrim_of_none htrim']
    exact ⟨htrim', (Envelope.moveCounters_keeps _).2⟩
  case trims =>
    intro tr htr
    obtain ⟨hrunning, hlast⟩ := flush_levelSample_of_trim (x := x) hth hs.2 htr
    rw [hlevel]
    refine ⟨hrunning, hlast, fun hr => ?_, fun hr o hspeaks hby => ?_⟩
    · have hsample : QuietSample x s := ⟨fun h => hr (hreleases.mpr h), .inr (.inr (by simp [htr]))⟩
      rw [hseat, hsq, hst, hflash, moveCounters_of_quietSample hth hsample]
      exact ⟨rfl, rfl, rfl, rfl⟩
    · rw [hseat, moveCounters_of_release (s := sampled x s) hth (hreleases.mp hr),
        voiceRelease_of_voice (o := o) (by exact hspeaks) hby]
      exact yieldLane_seat _ (by exact hspeaks)

end Sys2Proof.Instant
end

section

/-! What the arrivals and the ticks share: what the floor posts (R62, R69, R92), the evaluation of a WAITING seat (R113), and an
accepted frame of another station as the blocks act on it (R17, R24, R35). -/

namespace Sys2Proof.Instant

open Sys2Proof Sys2Proof.Machine

-- One proof at a time: the text is compiled in bounded memory.
set_option Elab.async false

/-! ## What the floor posts -/

/-- R62: the lanes reported between two views. -/
def lanePosts (v w : Vector Lane 8) : List Event :=
  (laneNumbers.filter fun i => decide (w[i].shows ≠ v[i].shows)).map Event.laneChanged

/-- R69: the report of a mute source list that became empty or non-empty. -/
def mutePosts (l m : List MuteSource) : List Event := if m.isEmpty = l.isEmpty then [] else [.muteChanged (!m.isEmpty)]

/-- R92: the report of a window whose pairs have changed. -/
def linePosts (v w : List Entry) : List Event :=
  if w.map (fun e => (e.ticket, e.asker)) = v.map (fun e => (e.ticket, e.asker)) then [] else [.lineChanged]

/-- R156: the report of a trim that a take has ended. -/
def trimPosts (v w : VoiceUnit) : List Event :=
  if v.trim.isSome = true ∧ w.trim.isNone = true then [.trimAborted .taking] else []

theorem floorEvents_eq (s t : State) :
    s.floorEvents t =
      lanePosts s.lanes t.lanes ++ mutePosts s.mutes t.mutes ++ linePosts s.window t.window ++ trimPosts s.vu t.vu := rfl

@[simp] theorem lanePosts_self (v : Vector Lane 8) : lanePosts v v = [] := by simp [lanePosts]

@[simp] theorem mutePosts_self (l : List MuteSource) : mutePosts l l = [] := by simp [mutePosts]

@[simp] theorem linePosts_self (w : List Entry) : linePosts w w = [] := by simp [linePosts]

@[simp] theorem trimPosts_self (v : VoiceUnit) : trimPosts v v = [] := by
  cases h : v.trim <;> simp [trimPosts, h]

theorem setLanes_posts (w : Vector Lane 8) (s : State) :
    (setLanes w s).outbox.map Posted.event = s.outbox.map Posted.event ++ lanePosts s.lanes w := by
  rw [setLanes_outbox, List.map_append, laneEvents_events]
  rfl

@[simp] theorem setMutes_mutes (l : List MuteSource) (s : State) : (setMutes l s).mutes = l := by
  simp only [setMutes]
  split <;> simp

theorem setMutes_posts (l : List MuteSource) (s : State) :
    (setMutes l s).outbox.map Posted.event = s.outbox.map Posted.event ++ mutePosts s.mutes l := by
  simp only [setMutes, mutePosts]
  split <;> simp

theorem setWindow_posts (w : List Entry) (s : State) :
    (setWindow w s).outbox.map Posted.event = s.outbox.map Posted.event ++ linePosts s.window w := by
  by_cases h : w.map (fun e => (e.ticket, e.asker)) = s.window.map (fun e => (e.ticket, e.asker))
  · simp [setWindow, linePosts, lineMoved, windowPairs, h]
  · simp [setWindow, linePosts, lineMoved, windowPairs, h, Ne.symm h]

/-- R156: a seat that begins a take posts the end of a trim. -/
theorem beginTake_posts (k : IntendedTake) (s : State) :
    (beginTake k s).outbox.map Posted.event = s.outbox.map Posted.event ++ trimPosts s.vu (beginTake k s).vu := by
  rw [Envelope.beginTake_vu]
  cases h : s.vu.trim <;> simp [beginTake, enterTaking, abortTrim, trimPosts, h]

theorem evaluate_posts (s : State) :
    (evaluate s).outbox.map Posted.event = s.outbox.map Posted.event ++ trimPosts s.vu (evaluate s).vu := by
  unfold evaluate
  split
  · split
    · exact beginTake_posts _ s
    · simp
  · simp

theorem signals_posts (before s : State) :
    (signals before s).outbox.map Posted.event = s.outbox.map Posted.event ++ trimPosts s.vu (signals before s).vu := by
  unfold signals
  split
  · exact evaluate_posts s
  · simp

/-- R185: what an instant posts, from what waits at its end. -/
theorem posts_of_perm {s u : State} {posted : List Event} (hpp : u.pp.events = s.pp.events ∧ u.pp.reading = s.pp.reading)
    (h : (u.outbox.map Posted.event).Perm posted) : s.Posts (flush u) posted := by
  obtain ⟨hevents, hreading⟩ := hpp
  obtain ⟨order, hperm, htaken⟩ := flush_takes u
  refine ⟨order, hperm.trans h, ?_⟩
  rw [htaken, hevents, hreading]
  simp

/-! ## The postings of one instant in the queue -/

/-- R185: with room an event is merged or appended. -/
theorem enqueueEvent_of_room (stamp : Nat) (reading : Bool) {q : List EventRec} (e : Event) (hlen : q.length < 16)
    (hq : ∀ r ∈ q, r.event ≠ .overrun) :
    enqueueEvent stamp reading q e = q ∨ enqueueEvent stamp reading q e = q ++ [{ event := e, stamp := stamp }] := by
  by_cases h : e.merges = true ∧ ∃ r ∈ (if reading then q.tail else q), r.event = e
  · exact .inl (enqueueEvent_of_merged stamp reading h.1 h.2)
  · right
    rw [enqueueEvent_of_unmerged stamp reading hq, if_pos hlen]
    by_cases hm : e.merges = true
    · exact .inr fun r hr hx => h ⟨hm, r, hr, hx⟩
    · exact .inl (by simpa using hm)

theorem enqueueEvent_no_overrun (stamp : Nat) (reading : Bool) {q : List EventRec} {e : Event} (hlen : q.length < 16)
    (he : e ≠ .overrun) (hq : ∀ r ∈ q, r.event ≠ .overrun) :
    (∀ r ∈ enqueueEvent stamp reading q e, r.event ≠ .overrun) ∧
      (enqueueEvent stamp reading q e).length ≤ q.length + 1 := by
  obtain h | h := enqueueEvent_of_room stamp reading e hlen hq <;> rw [h]
  · exact ⟨hq, Nat.le_succ _⟩
  · refine ⟨fun r hr => ?_, by simp⟩
    obtain hr | hr := List.mem_append.mp hr
    · exact hq r hr
    · rw [List.mem_singleton.mp hr]
      exact he

/-- R185: with room for all that is posted, no entry of the queue is lost. -/
theorem subset_foldl_enqueueEvent (stamp : Nat) (reading : Bool) {order : List Event} (hno : ∀ x ∈ order, x ≠ .overrun)
    {q : List EventRec} (hlen : q.length + order.length ≤ 16) (hq : ∀ r ∈ q, r.event ≠ .overrun) :
    q ⊆ order.foldl (enqueueEvent stamp reading) q := by
  induction order generalizing q with
  | nil => exact List.Subset.refl q
  | cons x order ih =>
    simp only [List.length_cons] at hlen
    obtain ⟨hafter, hgrown⟩ := enqueueEvent_no_overrun stamp reading (by omega) (hno x List.mem_cons_self) hq
    have hkept : q ⊆ enqueueEvent stamp reading q x := by
      obtain h | h := enqueueEvent_of_room stamp reading x (by omega) hq <;> rw [h]
      · exact List.Subset.refl q
      · exact List.subset_append_left _ _
    exact List.Subset.trans hkept (ih (fun y hy => hno y (List.mem_cons_of_mem _ hy)) (by omega) hafter)

/-- R185: an event that is not merged is in the queue when there is room for all that is posted with it. -/
theorem mem_foldl_enqueueEvent {stamp : Nat} {reading : Bool} {e : Event} (he : e.merges = false) {order : List Event}
    (hmem : e ∈ order) (hno : ∀ x ∈ order, x ≠ .overrun) {q : List EventRec} (hlen : q.length + order.length ≤ 16)
    (hq : ∀ r ∈ q, r.event ≠ .overrun) :
    { event := e, stamp := stamp : EventRec } ∈ order.foldl (enqueueEvent stamp reading) q := by
  induction order generalizing q with
  | nil => cases hmem
  | cons x order ih =>
    simp only [List.length_cons] at hlen
    have hno' : ∀ y ∈ order, y ≠ .overrun := fun y hy => hno y (List.mem_cons_of_mem _ hy)
    obtain ⟨hafter, hgrown⟩ := enqueueEvent_no_overrun stamp reading (by omega) (hno x List.mem_cons_self) hq
    rw [List.foldl_cons]
    obtain rfl | hmem := List.mem_cons.mp hmem
    · refine subset_foldl_enqueueEvent stamp reading hno' (by omega) hafter ?_
      rw [enqueueEvent_of_unmerged stamp reading hq (.inl he), if_pos (by omega)]
      exact List.mem_append_right _ (List.mem_singleton.mpr rfl)
    · exact ih hmem hno' (by omega) hafter

/-- R185: an event posted at an instant is in the queue, with its stamp, when there is room for all that is posted. -/
theorem mem_of_posts {s t : State} {posted : List Event} {e : Event} (h : s.Posts t posted) (he : e.merges = false)
    (hmem : e ∈ posted) (hno : .overrun ∉ posted) (hlen : s.pp.events.length + posted.length ≤ 16)
    (hq : ∀ r ∈ s.pp.events, r.event ≠ .overrun) (hticks : t.viewTicks = s.viewTicks) :
    { event := e, stamp := s.viewTicks : EventRec } ∈ t.pp.events := by
  obtain ⟨order, hperm, hevents⟩ := h
  rw [hevents, hticks]
  exact mem_foldl_enqueueEvent he (hperm.mem_iff.mpr hmem) (fun x hx h => hno (h ▸ hperm.mem_iff.mp hx))
    (by rw [hperm.length_eq]; exact hlen) hq

theorem lanePosts_length (v w : Vector Lane 8) : (lanePosts v w).length ≤ 8 := by
  rw [lanePosts, List.length_map]
  exact (List.length_filter_le _ _).trans_eq rfl

theorem mutePosts_length (l m : List MuteSource) : (mutePosts l m).length ≤ 1 := by
  unfold mutePosts
  split <;> simp

theorem linePosts_length (v w : List Entry) : (linePosts v w).length ≤ 1 := by
  unfold linePosts
  split <;> simp

/-- R185: the floor posts no OVERRUN. -/
theorem overrun_notMem_floorEvents (s t : State) : .overrun ∉ s.floorEvents t := by
  simp only [floorEvents_eq, List.mem_append, lanePosts, mutePosts, linePosts, trimPosts]
  split_ifs <;> simp

/-! ## Evaluation -/

theorem evaluated_flush {u : State} {ticket : Nat} {floor : Option (Slotted FloorFrame)} (h : u.Evaluated ticket floor) :
    (flush u).Evaluated ticket floor := by
  unfold flush
  split
  · exact h
  · exact h

/-- R113: a WAITING seat with a LIVE Own Ask evaluates, outside the wait of a restart and with no FLOOR frame in flight. -/
theorem evaluate_evaluated {s : State} {ticket : Nat} (hseat : s.seat = .waiting) (hask : s.ownAsk = .live ticket)
    (hpending : s.flags.restartPending = false) (hfree : s.flying .floor = false) :
    (evaluate s).Evaluated ticket s.sq.floor := by
  have hself : s.selfTake? =
      if s.order.mode = .openFloor ∧ s.rankOf ticket < s.room then
        (s.freeLanes[s.rankOf ticket]?).map fun lane => (lane, ticket)
      else none := by
    unfold State.selfTake?
    rw [hask]
    dsimp only
    split
    · cases s.freeLanes[s.rankOf ticket]? <;> rfl
    · rfl
  have heffect : evaluate s = match s.selfTake? with
      | some (lane, t) =>
        beginTake { kind := .line, lane := lane, key := t, displace := false, muting := false, mode := s.order.mode,
                    grantor := 0 } s
      | none => s := if_pos ⟨hseat, by simp [hpending]⟩
  unfold State.Evaluated
  have hlanes : (evaluate s).freeLanes = s.freeLanes := by simp [State.freeLanes]
  have hrank : (evaluate s).rankOf ticket = s.rankOf ticket := by simp [State.rankOf]
  have hroom : (evaluate s).room = s.room := by simp [State.room, State.delegateLanes]
  have horder : (evaluate s).order = s.order := by simp
  rw [hlanes, hrank, hroom, horder]
  cases hlane : s.freeLanes[s.rankOf ticket]? with
  | none =>
    rw [hlane, Option.map_none, ite_self] at hself
    rw [hself] at heffect
    dsimp only at heffect ⊢
    rw [heffect]
    exact ⟨hseat, rfl⟩
  | some lane =>
    dsimp only
    rw [hlane] at hself
    split
    next htakes =>
      rw [if_pos htakes] at hself
      rw [hself] at heffect
      dsimp only [Option.map_some] at heffect
      rw [heffect, htakes.1, Envelope.beginTake_vu]
      refine ⟨?_, ?_, rfl⟩
      · simp [beginTake, enterTaking]
      · rw [beginTake, placeFloor_of_free _ (by simpa [State.flying] using hfree)]
    next hstays =>
      rw [if_neg hstays] at hself
      rw [hself] at heffect
      dsimp only at heffect
      rw [heffect]
      exact ⟨hseat, rfl⟩

/-- R113: another seat does not evaluate. -/
theorem evaluate_of_not_waiting {s : State} (h : s.seat ≠ .waiting) : evaluate s = s := if_neg fun hw => h hw.1

theorem signals_of_not_waiting {before s : State} (h : s.seat ≠ .waiting) : signals before s = s := by
  unfold signals
  rw [evaluate_of_not_waiting h, ite_self]

theorem signals_of_moved {before s : State} (h : viewMoved before.lanes s.lanes = true ∨
    lineMoved before.window s.window = true ∨ s.order ≠ before.order) : signals before s = evaluate s := by
  unfold signals
  rw [if_pos]
  obtain h | h | h := h
  · simp [h]
  · simp [h]
  · simp [h.symm]

theorem signals_of_still {before s : State} (hview : viewMoved before.lanes s.lanes = false)
    (hline : lineMoved before.window s.window = false) (horder : s.order = before.order) : signals before s = s := by
  unfold signals
  simp [hview, hline, horder]

/-- R62, R92: what the signals of the Floor View and the Request Line see. -/
theorem moved_iff (s t : State) :
    s.Moved t ↔ viewMoved s.lanes t.lanes = true ∨ lineMoved s.window t.window = true := by
  have hview : viewMoved s.lanes t.lanes = true ↔ ∃ i : Fin 8, t.lanes[i].holder? ≠ s.lanes[i].holder? := by
    simp only [viewMoved, List.any_eq_true, OldestLane.mem_laneNumbers, true_and, decide_eq_true_eq]
    exact exists_congr fun i => ne_comm
  have hline : lineMoved s.window t.window = true ↔
      t.window.map (fun e => (e.ticket, e.asker)) ≠ s.window.map (fun e => (e.ticket, e.asker)) := by
    simp only [lineMoved, decide_eq_true_eq]
    exact ne_comm
  rw [hview, hline]
  rfl

end Sys2Proof.Instant
end

section

/-! An accepted frame of another station, as every block acts on it (R14, R17, R24, R35), and the arrival of a TAKE (R54, R55,
R87, R125). -/

namespace Sys2Proof.Instant

open Sys2Proof Sys2Proof.Machine

-- One proof at a time: the text is compiled in bounded memory.
set_option Elab.async false

/-! ## An accepted frame -/

/-- R14, R35: the station after the slot of an accepted frame of another station, which has been offered to the feed. -/
def heard (f : Frame) (s : State) : State := { s with li := s.li.afterSlot, pp := (offerFeed false f s).pp }

theorem offerFeed_slot (f : Frame) (s : State) : offerFeed false f (slotRecessive (lineIdle s)) = heard f s := by
  by_cases hon : s.pp.feedOn = true
  · by_cases hroom : s.pp.feed.length < 16 <;>
      simp [heard, offerFeed, hon, hroom, LineIf.afterSlot]
  · simp [heard, offerFeed, hon, state_eq_iff, LineIf.afterSlot]

/-- R187: what offering a frame to the feed changes of the panel port. -/
theorem offerFeed_pp (own : Bool) (f : Frame) (s : State) :
    (offerFeed own f s).pp = { s.pp with
      feed := (offerFeed own f s).pp.feed, overflow := (offerFeed own f s).pp.overflow,
      overflowSince := (offerFeed own f s).pp.overflowSince } := by
  unfold offerFeed
  split
  · rfl
  · split <;> rfl

/-- R35, R187: one frame offered to the feed. -/
theorem fed_of_offerFeed {own : Bool} {f : Frame} {s t : State} (hfeed : t.pp.feed = (offerFeed own f s).pp.feed)
    (hoverflow : t.pp.overflow = (offerFeed own f s).pp.overflow)
    (hsince : t.pp.overflowSince = (offerFeed own f s).pp.overflowSince) (hon : t.pp.feedOn = s.pp.feedOn) :
    s.Fed t own f := by
  refine ⟨hfeed.trans ?_, hoverflow.trans ?_, hsince.trans ?_, hon⟩ <;> unfold offerFeed <;>
    cases hfeedOn : s.pp.feedOn <;> by_cases hroom : s.pp.feed.length < 16 <;>
    simp [hfeedOn, hroom, Nat.not_le.mpr, Nat.not_lt.mp]

/-- R113, R115, R125 to R129: an arrival sets no restart up and completes none. -/
theorem seatArrival_restartPending (f : Frame) (before s : State) :
    (seatArrival f before s).flags.restartPending = s.flags.restartPending := by
  have order (clear : Bool) : (seatOrder clear before s).flags.restartPending = s.flags.restartPending := by
    unfold seatOrder
    split
    · rfl
    · dsimp only
      split_ifs <;> simp
  unfold seatArrival
  dsimp only
  split
  · split <;> simp
  · split <;> simp
  · split
    · simp
    · split
      · simp
      · split
        · simp only [dropWithdraw_keeps]
          split <;> simp
        · rfl
  · exact order _
  · rfl

theorem checkRestart_of_running {s : State} (h : s.flags.restartPending = false) : checkRestart s = s := by
  simp [checkRestart, State.restartDone, h]

section
variable {f g : Frame} {s : State}

theorem Hears.flying (h : s.Hears f.head) (slot : SlotId) : s.flying slot = false := by
  obtain ⟨-, hreceives, -⟩ := h
  have : s.sq.inFlight = none := by simp_all [State.receives]
  simp [State.flying, this]

/-- R17, R24: an accepted frame of another station, outside the wait of a restart. -/
theorem arrival_of_acting (h : s.Hears f.head) (hg : actingFrame f = some g) :
    arrival f s =
      signals (heard f s) (seatArrival g (heard f s) (floorArrival false false g (heard f s))) := by
  obtain ⟨-, hreceives, hpending, hsender, -⟩ := h
  have hclash : (slotRecessive (lineIdle s)).clashes false f = false := by simp [State.clashes, hsender]
  have hforeign : foreignArrival f (slotRecessive (lineIdle s)) =
      signals (heard f s) (seatArrival g (heard f s) (floorArrival false false g (heard f s))) := by
    unfold foreignArrival
    rw [hclash, hg, offerFeed_slot]
    rfl
  unfold arrival
  rw [if_pos hreceives, hforeign, checkRestart_of_running]
  rw [show ∀ u v : State, (signals u v).flags = v.flags from fun u v => by simp, seatArrival_restartPending]
  simpa [heard] using hpending

/-- R24, R28: a frame that is discarded after acceptance is offered to the feed, and no more. -/
theorem arrival_of_discard (hreceives : s.receives = true) (hrunning : s.flags.restartPending = false)
    (hother : f.head.sender.toNat ≠ s.addr) (hg : actingFrame f = none) : arrival f s = heard f s := by
  have hclash : (slotRecessive (lineIdle s)).clashes false f = false := by simp [State.clashes, hother]
  have hforeign : foreignArrival f (slotRecessive (lineIdle s)) = heard f s := by
    unfold foreignArrival
    rw [hclash, hg, offerFeed_slot]
    rfl
  unfold arrival
  rw [if_pos hreceives, hforeign, checkRestart_of_running (by simpa [heard] using hrunning)]

/-- What an arrival command gives, from what the blocks do. -/
theorem gives_arrival {c : Instr} {P : State → Prop} (h : s.Hears f.head) (hc : exec c s = event (arrival f) s)
    (hg : actingFrame f = some g)
    (hP : P (flush (signals (heard f s) (seatArrival g (heard f s) (floorArrival false false g (heard f s)))))) :
    Gives c s P :=
  gives_of_event h.1 hc (by rwa [arrival_of_acting h hg])

theorem headPasses_of_hears (h : s.Hears f.head) :
    validAddress f.head.sender.toNat = true ∧ decide (f.head.standing ≠ .listener) = true := by
  obtain ⟨-, -, -, -, hlo, hhi, hstanding⟩ := h
  simp [validAddress, hlo, hhi, hstanding]

end

/-- R113: a WAITING seat and the signals of an arrival that leaves x. -/
theorem evaluatesAt_signals {s before x : State} (hlanes : before.lanes = s.lanes) (hwindow : before.window = s.window)
    (horder : x.order = before.order) (hfree : s.flying .floor = false) (hpending : x.flags.restartPending = false)
    (hask : x.ownAsk = s.ownAsk) (hwaits : s.seat = .waiting → x.seat = .waiting ∧ x.sq = s.sq) :
    s.EvaluatesAt (flush (signals before x)) := by
  intro ticket hlive hseat
  obtain ⟨hxseat, hxsq⟩ := hwaits hseat
  have hmoved : s.Moved (flush (signals before x)) ↔
      viewMoved before.lanes x.lanes = true ∨ lineMoved before.window x.window = true := by
    rw [moved_iff, hlanes, hwindow]
    simp
  rw [hmoved]
  refine ⟨fun h => evaluated_flush ?_, fun h => ?_⟩
  · rw [signals_of_moved (by tauto), ← hxsq]
    exact evaluate_evaluated hxseat (hask.trans hlive) hpending (by simpa [State.flying, hxsq] using hfree)
  · rw [not_or, Bool.not_eq_true, Bool.not_eq_true] at h
    rw [signals_of_still h.1 h.2 horder]
    simp [hxseat, hxsq]

/-- R62, R69, R92, R156: what an arrival posts, from what the blocks before the signals have posted. -/
theorem posts_signals {s before x : State} {extra : List Event} (hvu : x.vu = s.vu)
    (hpp : x.pp.events = s.pp.events ∧ x.pp.reading = s.pp.reading)
    (h : (x.outbox.map Posted.event).Perm
      (lanePosts s.lanes x.lanes ++ mutePosts s.mutes x.mutes ++ linePosts s.window x.window ++ extra)) :
    s.Posts (flush (signals before x)) (s.floorEvents (flush (signals before x)) ++ extra) := by
  refine posts_of_perm (by simpa using hpp) ?_
  rw [signals_posts, hvu, floorEvents_eq]
  simp only [flush_keeps, signals_keeps]
  refine (h.append_right _).trans ?_
  simp only [List.append_assoc]
  exact (List.perm_append_comm.append_left _).append_left _ |>.append_left _

/-- R62, R69: what the Floor View posts at an arrival. -/
theorem viewArrival_posts (f : Frame) (s : State) :
    (viewArrival f s).outbox.map Posted.event =
      s.outbox.map Posted.event ++ lanePosts s.lanes (viewArrival f s).lanes ++ mutePosts s.mutes (viewArrival f s).mutes := by
  have both (w : Vector Lane 8) (l : List MuteSource) :
      (setMutes l (setLanes w s)).outbox.map Posted.event =
        s.outbox.map Posted.event ++ lanePosts s.lanes w ++ mutePosts s.mutes l := by
    rw [setMutes_posts, setLanes_posts]
    rfl
  have lanes (w : Vector Lane 8) :
      (setLanes w s).outbox.map Posted.event =
        s.outbox.map Posted.event ++ lanePosts s.lanes w ++ mutePosts s.mutes s.mutes := by
    rw [setLanes_posts, mutePosts_self, List.append_nil]
  unfold viewArrival
  dsimp only
  split
  · split
    · simpa using both _ _
    · exact lanes _
  · split
    · simpa using both _ _
    · exact lanes _
  · split
    · simpa using both _ _
    · exact lanes _
  · split
    · exact lanes _
    · simp
  · simp

theorem timerMute_st (active : Bool) (s : State) :
    (timerMute active s).st = { s.st with phase := (timerMute active s).st.phase } := by
  unfold timerMute
  split <;> rfl

theorem setMutes_st (l : List MuteSource) (s : State) :
    (setMutes l s).st = { s.st with phase := (setMutes l s).st.phase } := by
  simp only [setMutes]
  split
  · rfl
  · exact timerMute_st _ _

/-- R141: of the timer record an arrival at the Floor View moves the phase alone. -/
theorem viewArrival_st (f : Frame) (s : State) :
    (viewArrival f s).st = { s.st with phase := (viewArrival f s).st.phase } := by
  unfold viewArrival
  dsimp only
  split
  · split
    · exact setMutes_st _ _
    · rfl
  · split
    · exact setMutes_st _ _
    · rfl
  · split
    · exact setMutes_st _ _
    · rfl
  · split <;> rfl
  · rfl

/-- The panel port at the end of the instant of an accepted frame. -/
theorem flush_pp_of_heard {f : Frame} {s u : State} (h : u.pp = (heard f s).pp) :
    (flush u).pp = { s.pp with
      events := (flush u).pp.events, feed := (flush u).pp.feed, overflow := (flush u).pp.overflow,
      overflowSince := (flush u).pp.overflowSince } := by
  have hpp : u.pp = _ := h.trans (offerFeed_pp false f s)
  rw [Kept.flush_pp, hpp]

theorem heard_events (f : Frame) (s : State) :
    (heard f s).pp.events = s.pp.events ∧ (heard f s).pp.reading = s.pp.reading := by
  show (offerFeed false f s).pp.events = _ ∧ (offerFeed false f s).pp.reading = _
  rw [offerFeed_pp]
  exact ⟨rfl, rfl⟩

end Sys2Proof.Instant
end

section

/-! The arrivals of a TAKE, a YIELD and a HOLD (R54 to R60, R62, R69, R87, R125, R126). -/

namespace Sys2Proof.Instant

open Sys2Proof Sys2Proof.Machine

-- One proof at a time: the text is compiled in bounded memory.
set_option Elab.async false

variable {h : Header} {s : State}

/-! ## The acting frames -/

/-- R24, R31: a TAKE acts with its muting flag cleared at a sender that is no chair. -/
theorem actingFrame_take (lane : BitVec 3) (displace muting : Bool) (hs : s.Hears h) :
    actingFrame { head := h, body := .take lane displace muting } =
      some { head := h, body := .take lane displace (muting && decide (h.standing = .chair)) } := by
  obtain ⟨haddress, hstanding⟩ := headPasses_of_hears (f := { head := h, body := .take lane displace muting }) hs
  exact Kept.actingFrame_eq_some_iff.mpr ⟨by simp [headPasses, haddress, hstanding], rfl, rfl⟩

/-- R24, R30: a YIELD acts when its key is its lane. -/
theorem actingFrame_yield (lane reason : BitVec 3) (hs : s.Hears h) (hkey : h.key.toNat = lane.toNat) :
    actingFrame { head := h, body := .yield lane reason } =
      some { head := h, body := clampBody h.standing (.yield lane reason) } := by
  obtain ⟨haddress, hstanding⟩ := headPasses_of_hears (f := { head := h, body := .yield lane reason }) hs
  exact Kept.actingFrame_eq_some_iff.mpr ⟨by simp [headPasses, haddress, hstanding], by simp [bodyPasses, hkey], rfl⟩

/-- R24, R34: a HOLD acts with its lane in its key. -/
theorem actingFrame_hold (elapsed : BitVec 16) (muting warned : Bool) (hs : s.Hears h) (hkey : h.key.toNat ≤ 7) :
    actingFrame { head := h, body := .hold elapsed muting warned } =
      some { head := h, body := .hold elapsed (muting && decide (h.standing = .chair)) warned } := by
  obtain ⟨haddress, hstanding⟩ := headPasses_of_hears (f := { head := h, body := .hold elapsed muting warned }) hs
  exact Kept.actingFrame_eq_some_iff.mpr ⟨by simp [headPasses, haddress, hstanding], by simp [bodyPasses, hkey], rfl⟩

/-! ## The floor at an arrival -/

/-- An ORDER or a DIRECT, which the Floor Order, the Speech Timer or the Own Ask may act on. -/
def isChairs : Body → Bool
  | .order .. => true
  | .direct .. => true
  | _ => false

/-- The state u with a floor of its own: the view, the line, the Mark, the phase of the timer, and what has been posted. -/
def withFloorOf (u x : State) : State :=
  { u with
    lanes := x.lanes, window := x.window, mark := x.mark, mutes := x.mutes, st := { u.st with phase := x.st.phase },
    outbox := x.outbox }

/-- R53 to R60, R84 to R87: a frame of another station that is no ORDER and no DIRECT changes the floor alone. -/
theorem floorArrival_eq {f : Frame} (hbody : isChairs f.body = false) (clash : Bool) (u : State) :
    floorArrival false clash f u = withFloorOf u (floorArrival false clash f u) := by
  obtain ⟨head, body⟩ := f
  have hview := viewArrival_st { head := head, body := body } u
  rw [state_eq_iff]
  cases body with
  | order => cases hbody
  | direct => cases hbody
  | yield => simpa [withFloorOf, floorArrival, timerArrival, orderArrivalFO, lineArrival] using hview
  | take =>
    simp only [withFloorOf, floorArrival, timerArrival, orderArrivalFO, lineArrival]
    split <;> simpa using hview
  | withdraw =>
    simp only [withFloorOf, floorArrival, timerArrival, orderArrivalFO, lineArrival]
    split <;> simpa using hview
  | ask =>
    simp only [withFloorOf, floorArrival, timerArrival, orderArrivalFO, lineArrival]
    split <;> simpa using hview
  | hold => simpa [withFloorOf, floorArrival, timerArrival, orderArrivalFO, lineArrival] using hview

theorem setWindow_raiseMark_posts (w : List Entry) (k : Nat) (u : State) :
    (setWindow w (raiseMark k u)).outbox.map Posted.event =
      u.outbox.map Posted.event ++ linePosts u.window (setWindow w (raiseMark k u)).window := by
  rw [setWindow_posts, Kept.setWindow_window]
  rfl

/-- R62, R69, R92: what such a frame posts at the floor. -/
theorem floorArrival_posts {f : Frame} (hbody : isChairs f.body = false) (clash : Bool) (u : State) :
    (floorArrival false clash f u).outbox.map Posted.event = u.outbox.map Posted.event ++
      (lanePosts u.lanes (floorArrival false clash f u).lanes ++ mutePosts u.mutes (floorArrival false clash f u).mutes ++
        linePosts u.window (floorArrival false clash f u).window) := by
  obtain ⟨head, body⟩ := f
  have hview := viewArrival_posts { head := head, body := body } u
  have quiet {v : State} (hv : v = viewArrival { head := head, body := body } u) (k : Nat) :
      (raiseMark k v).outbox.map Posted.event = u.outbox.map Posted.event ++
        (lanePosts u.lanes v.lanes ++ mutePosts u.mutes v.mutes ++ linePosts u.window v.window) := by
    subst hv
    simpa using hview
  have moved {v : State} (hv : v = viewArrival { head := head, body := body } u) (k : Nat) (w : List Entry) :
      (setWindow w (raiseMark k v)).outbox.map Posted.event = u.outbox.map Posted.event ++
        (lanePosts u.lanes v.lanes ++ mutePosts u.mutes v.mutes ++
          linePosts u.window (setWindow w (raiseMark k v)).window) := by
    subst hv
    rw [setWindow_raiseMark_posts, hview]
    simp
  cases body with
  | order => cases hbody
  | direct => cases hbody
  | yield => simpa [floorArrival, timerArrival, orderArrivalFO, lineArrival] using hview
  | take =>
    simp only [floorArrival, timerArrival, orderArrivalFO, lineArrival]
    split
    · simpa using quiet rfl head.key.toNat
    · simpa using moved rfl head.key.toNat _
  | withdraw =>
    simp only [floorArrival, timerArrival, orderArrivalFO, lineArrival]
    split
    · simpa using quiet rfl head.key.toNat
    · simpa using moved rfl head.key.toNat _
  | ask =>
    simp only [floorArrival, timerArrival, orderArrivalFO, lineArrival]
    split
    · simpa using quiet rfl head.key.toNat
    · simpa using moved rfl head.key.toNat _
  | hold => simpa [floorArrival, timerArrival, orderArrivalFO, lineArrival] using hview

/-- What a station that has heard a frame and changed no more than the floor has kept. -/
theorem heard_floor_keeps {f : Frame} {s x : State} (h : x = withFloorOf (heard f s) x) :
    x.addr = s.addr ∧ x.role = s.role ∧ x.profile = s.profile ∧ x.sq = s.sq ∧ x.ownAsk = s.ownAsk ∧ x.order = s.order ∧
      x.seat = s.seat ∧ x.flags = s.flags ∧ x.vu = s.vu ∧ x.gc = s.gc ∧ x.pp.events = s.pp.events ∧
      x.pp.reading = s.pp.reading ∧ x.viewTicks = s.viewTicks ∧ x.resetLow = s.resetLow := by
  obtain ⟨hevents, hreading⟩ := heard_events f s
  rw [h]
  exact ⟨rfl, rfl, rfl, rfl, rfl, rfl, rfl, rfl, rfl, rfl, hevents, hreading, rfl, rfl⟩

/-- A station that has heard a frame and changed no more than the floor, once its postings are in the queue. -/
theorem flush_eq_of_floor {f : Frame} {s x : State} (hs : s.outbox = []) (hx : x = withFloorOf (heard f s) x) :
    flush x =
      { s with
        li := s.li.afterSlot, lanes := x.lanes, window := x.window, mark := x.mark, mutes := x.mutes,
        st := { s.st with phase := x.st.phase }, freeCount := (flush x).freeCount,
        pp := { s.pp with events := (flush x).pp.events, feed := (flush x).pp.feed, overflow := (flush x).pp.overflow,
                          overflowSince := (flush x).pp.overflowSince } } := by
  have hpp := flush_pp_of_heard (f := f) (s := s) (u := x) (by rw [hx]; rfl)
  rw [state_eq_iff]
  simp only [flush_keeps, flush_outbox, hs, and_true, true_and]
  refine ⟨?_, ?_, ?_, ?_, ?_, ?_, ?_, ?_, ?_, ?_, ?_, ?_, ?_, ?_, ?_, ?_, ?_, ?_, ?_, ?_, hpp⟩ <;> rw [hx] <;> rfl

/-! ## The TAKE -/

/-- R54, R55, R87: the floor after the TAKE of another station. -/
theorem floorArrival_take (lane : BitVec 3) (displace muting clash : Bool) {u : State} (hother : h.sender.toNat ≠ u.addr) :
    floorArrival false clash { head := h, body := .take lane displace muting } u =
      setWindow (removeAsker h.sender.toNat u.window)
        (raiseMark h.key.toNat (viewArrival { head := h, body := .take lane displace muting } u)) := by
  simp only [floorArrival, timerArrival, orderArrivalFO, lineArrival, viewArrival_keeps, hother, decide_false,
    Bool.false_and, Bool.false_eq_true, if_false, raiseMark_window]

theorem viewArrival_take_lanes (lane : BitVec 3) (displace muting : Bool) (u : State) (i : Fin 8) :
    (viewArrival { head := h, body := .take lane displace muting } u).lanes[i] =
      if i = laneOf lane then
        .held { holder := h.sender.toNat, standing := h.standing, ticket := h.key.toNat, age := 0, silence := 0,
                muting := muting && decide (h.standing = .chair), warned := false }
      else if u.lanes[i].holder? = some h.sender.toNat then .free else u.lanes[i] := by
  have hlanes : (viewArrival { head := h, body := .take lane displace muting } u).lanes =
      takeLanes h.sender.toNat h.standing h.key.toNat (laneOf lane) muting u.lanes := by
    simp only [viewArrival]
    split <;> simp
  rw [hlanes]
  exact mapLanes_get _ _ i

theorem viewArrival_take_mutes (lane : BitVec 3) (displace muting : Bool) (u : State) :
    (viewArrival { head := h, body := .take lane displace muting } u).mutes =
      if h.standing = .chair then
        (if muting then muteJoin h.sender.toNat u.mutes else muteLeave h.sender.toNat u.mutes)
      else u.mutes := by
  simp only [viewArrival, decide_eq_true_eq]
  split <;> simp

/-- R125: a TAKE of another lane leaves the seat. -/
theorem seatTake_of_other {a : Nat} {lane : Fin 8} {displace : Bool} {u : State}
    (hlane : ∀ o, u.seat.own? = some o → o.lane ≠ lane) : seatTake a lane displace u = u := by
  unfold seatTake
  split
  next o hseat => exact if_neg (hlane o (by rw [hseat]; rfl))
  next o hseat => exact if_neg (hlane o (by rw [hseat]; rfl))
  next o r hseat => exact if_neg (hlane o (by rw [hseat]; rfl))
  next => rfl


/-- R113, R125: what a TAKE of another lane does at the seat. -/
theorem seatArrival_take_of_other {lane : BitVec 3} {displace muting : Bool} {before x : State}
    (hlane : ∀ o, x.seat.own? = some o → o.lane ≠ laneOf lane) :
    seatArrival { head := h, body := .take lane displace muting } before x = x := by
  unfold seatArrival
  dsimp only
  rw [seatTake_of_other hlane, ite_self]

/-- The station after the floor's part of a TAKE of another station. -/
theorem floorArrival_take_fields (lane : BitVec 3) (displace muting : Bool) {u : State}
    (hother : h.sender.toNat ≠ u.addr) :
    (∀ i : Fin 8, (floorArrival false false { head := h, body := .take lane displace muting } u).lanes[i] =
      if i = laneOf lane then
        .held { holder := h.sender.toNat, standing := h.standing, ticket := h.key.toNat, age := 0, silence := 0,
                muting := muting && decide (h.standing = .chair), warned := false }
      else if u.lanes[i].holder? = some h.sender.toNat then .free else u.lanes[i]) ∧
    (floorArrival false false { head := h, body := .take lane displace muting } u).window =
      u.window.filter (fun e => decide (e.asker ≠ h.sender.toNat)) ∧
    (floorArrival false false { head := h, body := .take lane displace muting } u).mark = max u.mark h.key.toNat ∧
    (floorArrival false false { head := h, body := .take lane displace muting } u).mutes =
      if h.standing = .chair then
        (if muting then muteJoin h.sender.toNat u.mutes else muteLeave h.sender.toNat u.mutes)
      else u.mutes := by
  rw [floorArrival_take _ _ _ _ hother]
  refine ⟨fun i => ?_, by simp [removeAsker], by simp, ?_⟩
  · rw [← viewArrival_take_lanes lane displace muting u i]
    simp
  · rw [← viewArrival_take_mutes lane displace muting u]
    simp

/-- R31, R34: the muting flag counts at a chair alone. -/
theorem clearing_at_chair {α : Type} (h : Header) (muting : Bool) (join leave keep : α) :
    (if h.standing = .chair then (if (muting && decide (h.standing = .chair)) = true then join else leave) else keep) =
      if h.standing = .chair then (if muting = true then join else leave) else keep := by
  by_cases hc : h.standing = .chair <;> simp [hc]

theorem Hears.other (hs : s.Hears h) : h.sender.toNat ≠ s.addr := by
  obtain ⟨-, -, -, hother, -⟩ := hs
  exact hother

theorem Hears.running (hs : s.Hears h) : s.flags.restartPending = false := by
  obtain ⟨-, -, hrunning, -⟩ := hs
  exact hrunning

/-- Settles O23: the floor's part is the same at every seat, and a seat without the lane leaves what the signals leave. -/
theorem takeArrivalGivesTheLaneToItsSender : Obligations.TakeArrivalGivesTheLaneToItsSender := by
  unfold Obligations.TakeArrivalGivesTheLaneToItsSender
  intro h lane displace muting s hs
  let f : Frame := { head := h, body := .take lane displace muting }
  let g : Frame := { head := h, body := .take lane displace (muting && decide (h.standing = .chair)) }
  refine gives_arrival (f := f) (g := g) hs rfl (actingFrame_take lane displace muting hs) ?_
  obtain ⟨hlanes, hwindow, hmark, hmutes⟩ :=
    floorArrival_take_fields (h := h) (u := heard f s) lane displace (muting && decide (h.standing = .chair)) (Hears.other (s := s) hs)
  have heq := floorArrival_eq (f := g) rfl false (heard f s)
  have hposts := floorArrival_posts (f := g) rfl false (heard f s)
  change ∀ i : Fin 8, (floorArrival false false g (heard f s)).lanes[i] = _ at hlanes
  change (floorArrival false false g (heard f s)).window = _ at hwindow
  change (floorArrival false false g (heard f s)).mark = _ at hmark
  change (floorArrival false false g (heard f s)).mutes = _ at hmutes
  generalize floorArrival false false g (heard f s) = x at *
  have hseat : x.seat = s.seat := by rw [heq]; rfl
  have hother (hlane : ∀ o, s.seat.own? = some o → o.lane ≠ laneOf lane) : seatArrival g (heard f s) x = x :=
    seatArrival_take_of_other (by rwa [hseat])
  have hunowned (hwaits : s.seat = .waiting) : ∀ o, s.seat.own? = some o → o.lane ≠ laneOf lane := by
    simp [hwaits, Seat.own?]
  have hkept : (seatArrival g (heard f s) x).lanes = x.lanes ∧ (seatArrival g (heard f s) x).window = x.window ∧
      (seatArrival g (heard f s) x).mark = x.mark ∧ (seatArrival g (heard f s) x).mutes = x.mutes ∧
      (seatArrival g (heard f s) x).ownAsk = x.ownAsk ∧ (seatArrival g (heard f s) x).order = x.order ∧
      (seatArrival g (heard f s) x).flags = x.flags := by
    simp only [seatArrival, g]
    split <;> simp
  obtain ⟨hylanes, hywindow, hymark, hymutes, hyask, hyorder, hyflags⟩ := hkept
  simp only [flush_keeps, signals_keeps, hylanes, hywindow, hymark, hymutes, hyask]
  refine ⟨fun i => (hlanes i).trans (by simp only [Bool.and_assoc, Bool.and_self]; rfl), hwindow, hmark, hmutes.trans (clearing_at_chair h muting _ _ _), by rw [heq]; rfl,
    evaluatesAt_signals rfl rfl (by rw [hyorder, heq]; rfl) (Hears.flying (f := f) hs .floor)
      (by rw [hyflags, heq]; exact Hears.running (s := s) hs) (by rw [hyask, heq]; rfl) fun hwaits => ?_, fun hlane => ?_,
    fun hwaits hlane => ?_⟩
  · rw [hother (hunowned hwaits), hseat, heq]
    exact ⟨hwaits, rfl⟩
  · rw [hother hlane]
    simpa using posts_signals (s := s) (before := heard f s) (x := x) (extra := []) (by rw [heq]; rfl)
      (by rw [heq]; exact heard_events f s) (by rw [hposts]; simp [heard, hs.1.2])
  · rw [hother hlane, signals_of_not_waiting (by rwa [hseat])]
    exact flush_eq_of_floor hs.1.2 heq

/-! ## The TAKE of the own lane -/

theorem floorEvents_length (s t : State) (hvu : t.vu = s.vu) :
    (s.floorEvents t).length ≤ (lanePosts s.lanes t.lanes).length + 2 := by
  have hmutes := mutePosts_length s.mutes t.mutes
  have hline := linePosts_length s.window t.window
  rw [floorEvents_eq, hvu]
  simp only [List.length_append, trimPosts_self, List.length_nil]
  omega

/-- R52: a claim of a lane changes that lane and the one lane its holder had. -/
theorem lanePosts_length_of_claim {n : Fin 8} {a : Nat} {w : Vector Lane 8} (hview : s.ViewLaw)
    (hw : ∀ i, i ≠ n → s.lanes[i].holder? ≠ some a → w[i] = s.lanes[i]) : (lanePosts s.lanes w).length ≤ 2 := by
  rw [lanePosts, List.length_map]
  have hnodup : (laneNumbers.filter fun i => decide (w[i].shows ≠ s.lanes[i].shows)).Nodup :=
    List.Nodup.filter _ (by decide)
  have hmoved (i : Fin 8) (hi : w[i].shows ≠ s.lanes[i].shows) : i = n ∨ s.lanes[i].holder? = some a := by
    by_contra hno
    obtain ⟨hn, ha⟩ := not_or.mp hno
    exact hi (by rw [hw i hn ha])
  have hpair : ∃ j, ∀ i : Fin 8, w[i].shows ≠ s.lanes[i].shows → i = n ∨ i = j := by
    by_cases hheld : ∃ j : Fin 8, s.lanes[j].holder? = some a
    · obtain ⟨j, hj⟩ := hheld
      exact ⟨j, fun i hi => (hmoved i hi).imp_right fun h => hview i j a h hj⟩
    · exact ⟨n, fun i hi => (hmoved i hi).imp_right fun h => absurd ⟨i, h⟩ hheld⟩
  obtain ⟨j, hj⟩ := hpair
  refine (hnodup.subperm (l₂ := [n, j]) fun i hi => ?_).length_le
  simpa using hj i (of_decide_eq_true (List.mem_filter.mp hi).2)

/-- R125: a TAKE of the lane at which the seat speaks. -/
theorem seatTake_of_speaking {a : Nat} {displace : Bool} {o : OwnLane} {u : State} (h : u.seat.speaking? = some o) :
    seatTake a o.lane displace u =
      post .sa (if displace then .displaced a else .laneLost a) (enterIdle (speechEnd u)) := by
  unfold seatTake
  cases hseat : u.seat <;> simp_all [Seat.speaking?]

/-- R125: a TAKE of the lane that the seat is giving up. -/
theorem seatTake_of_yielding {a : Nat} {displace : Bool} {o : OwnLane} {u : State} (h : u.seat.own? = some o)
    (hspeaking : u.seat.speaking? = none) : seatTake a o.lane displace u = enterIdle (removeFloor u) := by
  unfold seatTake
  cases hseat : u.seat <;> simp_all [Seat.speaking?, Seat.own?]

/-- R159: a seat that leaves its lane starts the duck tail, unless it runs. -/
theorem enterIdle_gc {u : State} (h : u.seat.own?.isSome = true) :
    (enterIdle u).gc = { u.gc with
      duckTail := if u.gc.spkMute = true ∧ u.gc.duckTail = .stopped then .running u.prof.duckTail else u.gc.duckTail } := by
  simp only [enterIdle, h, if_true, startTail]
  split
  · rfl
  · rfl

@[simp] theorem enterIdle_seat (u : State) : (enterIdle u).seat = .idle := by
  simp only [enterIdle]
  split <;> simp

theorem own_of_speaking {x : Seat} {o : OwnLane} (h : x.speaking? = some o) : x.own? = some o := by
  cases x <;> simp_all [Seat.speaking?, Seat.own?]

/-- R144: the timer at the end of a speech. -/
theorem speechEnd_st {u : State} (h : u.st.speaking = true) :
    (speechEnd u).st = { u.st with lastSpeech := u.st.elapsed, speaking := false, phase := .idle, remaining := 0,
                                   speechGrace := 0, correction := 0, elapsed := 0 } := by
  simp [speechEnd, h]

@[simp] theorem speechEnd_gc (u : State) : (speechEnd u).gc = { u.gc with gateDelay := .stopped } := rfl

/-- Settles O24: the seat ends its speech, or drops its YIELD, and is then IDLE, so the signals of the arrival do nothing. -/
theorem takeOfTheOwnLaneEndsTheSpeech : Obligations.TakeOfTheOwnLaneEndsTheSpeech := by
  unfold Obligations.TakeOfTheOwnLaneEndsTheSpeech
  intro h lane displace muting o s hs hown hlane
  let f : Frame := { head := h, body := .take lane displace muting }
  let g : Frame := { head := h, body := .take lane displace (muting && decide (h.standing = .chair)) }
  refine gives_arrival (f := f) (g := g) hs rfl (actingFrame_take lane displace muting hs) ?_
  obtain ⟨hlanes, -, -, -⟩ := floorArrival_take_fields (h := h) (u := heard f s) lane displace
    (muting && decide (h.standing = .chair)) (Hears.other (s := s) hs)
  have heq := floorArrival_eq (f := g) rfl false (heard f s)
  have hposts := floorArrival_posts (f := g) rfl false (heard f s)
  change ∀ i : Fin 8, (floorArrival false false g (heard f s)).lanes[i] = _ at hlanes
  generalize floorArrival false false g (heard f s) = x at *
  have hkept := heard_floor_keeps heq
  have hst : x.st = { s.st with phase := x.st.phase } := by rw [heq]; rfl
  have hpp : x.pp.events = s.pp.events ∧ x.pp.reading = s.pp.reading := by simp [hkept]
  have hfloor : (x.outbox.map Posted.event) =
      lanePosts s.lanes x.lanes ++ mutePosts s.mutes x.mutes ++ linePosts s.window x.window := by
    rw [hposts]
    simp [heard, hs.1.2]
  have htake : seatArrival g (heard f s) x = seatTake h.sender.toNat o.lane displace x := by
    simp only [seatArrival, g, hlane]
    exact if_neg (by rw [heq]; exact Hears.other (s := s) hs)
  rw [htake]
  cases hspeaking : s.seat.speaking? with
  | some o' =>
    obtain rfl : o' = o := by simpa [own_of_speaking hspeaking] using hown
    rw [seatTake_of_speaking (by simp [hkept, hspeaking]), signals_of_not_waiting (by simp)]
    have hgone := enterIdle_gc (u := speechEnd x) (by simp [hkept, hown])
    generalize hlost : (if displace then Event.displaced h.sender.toNat else .laneLost h.sender.toNat) = lost
    have hall := posts_of_perm (s := s) (u := post .sa lost (enterIdle (speechEnd x)))
      (posted := s.floorEvents (flush (post .sa lost (enterIdle (speechEnd x)))) ++ [lost])
      (by simpa using hpp) (by simp [hfloor, floorEvents_eq, hkept])
    refine ⟨by simp, gateOpen_of_silent (by simp [Seat.speaking?]), by simp [hkept], by simp [hkept], by simp [hkept],
      by simp [hkept], by simp [hgone, hkept], by simp [hgone, hkept], by simp [hgone, hkept, State.prof], hall,
      fun _ => ⟨by simp [hkept], fun hsp => ?_, fun hview hlen hno => ?_⟩, by simp⟩
    · have hspx : x.st.speaking = true := by rw [hst]; exact hsp
      simp only [flush_keeps, post_st, enterIdle_keeps, speechEnd_st hspx]
      rw [hst]
    · have hfew : (lanePosts s.lanes x.lanes).length ≤ 2 :=
        lanePosts_length_of_claim (n := laneOf lane) (a := h.sender.toNat) hview fun i hi hholder => by
          rw [hlanes i, if_neg hi]
          exact if_neg hholder
      have hfloorLen := floorEvents_length s (flush (post .sa lost (enterIdle (speechEnd x)))) (by simp [hkept])
      have hmerges : lost.merges = false ∧ lost ≠ .overrun := by
        rw [← hlost]
        cases displace <;> simp [Event.merges]
      simp only [flush_keeps, post_lanes, enterIdle_keeps, speechEnd_keeps] at hfloorLen
      refine mem_of_posts hall hmerges.1 (by simp) ?_ (by simp only [List.length_append, List.length_singleton]; omega) hno
        (by simp [hkept])
      simpa [overrun_notMem_floorEvents] using hmerges.2.symm
  | none =>
    rw [seatTake_of_yielding (by simp [hkept, hown]) (by simp [hkept, hspeaking]), signals_of_not_waiting (by simp)]
    have hgone := enterIdle_gc (u := removeFloor x) (by simp [hkept, hown])
    have hfree : x.flying .floor = false := by simpa [State.flying, hkept] using Hears.flying (f := f) hs .floor
    refine ⟨by simp, gateOpen_of_silent (by simp [Seat.speaking?]), by simp [hkept], by simp [hkept], by simp [hkept],
      by simp [hkept], by simp [hgone, hkept], by simp [hgone, hkept], by simp [hgone, hkept, State.prof],
      posts_of_perm (by simpa using hpp) (by simp [hfloor, floorEvents_eq, hkept]), by simp, fun _ => ?_⟩
    simp [removeFloor_of_free hfree, hkept]

end Sys2Proof.Instant
end

section

/-! The arrivals of a YIELD and a HOLD (R56 to R60, R62, R69, R126), and a chair's mute at a speaking seat (R141, R158, R176). -/

namespace Sys2Proof.Instant

open Sys2Proof Sys2Proof.Machine

-- One proof at a time: the text is compiled in bounded memory.
set_option Elab.async false

variable {h : Header} {s : State}

/-! ## An arrival that leaves the seat alone -/

/-- A frame of another station that the seat does not answer to: the floor moves, its changes are posted, and a WAITING seat
evaluates on the signals (R62, R92, R113). -/
theorem quiet_arrival {f : Frame} {x t : State} (hs : s.Hears f.head) (hx : x = withFloorOf (heard f s) x)
    (hposts : x.outbox.map Posted.event = (heard f s).outbox.map Posted.event ++
      (lanePosts (heard f s).lanes x.lanes ++ mutePosts (heard f s).mutes x.mutes ++
        linePosts (heard f s).window x.window))
    (ht : t = flush (signals (heard f s) x)) :
    t.lanes = x.lanes ∧ t.window = x.window ∧ t.mark = x.mark ∧ t.mutes = x.mutes ∧ t.ownAsk = s.ownAsk ∧
      t.order = s.order ∧ s.EvaluatesAt t ∧ s.Posts t (s.floorEvents t) ∧
      (s.seat ≠ .waiting ∨ ¬ s.Moved t →
        t = { s with li := s.li.afterSlot, lanes := t.lanes, window := t.window, mark := t.mark, mutes := t.mutes,
                     st := { s.st with phase := t.st.phase }, freeCount := t.freeCount,
                     pp := { s.pp with events := t.pp.events, feed := t.pp.feed, overflow := t.pp.overflow,
                                       overflowSince := t.pp.overflowSince } }) := by
  have hkept := heard_floor_keeps hx
  subst ht
  refine ⟨by simp, by simp, by simp, by simp, by simp [hkept], by simp [hkept],
    evaluatesAt_signals rfl rfl (by rw [hx]; rfl) (Hears.flying (f := f) hs .floor)
      (by simpa [hkept] using Hears.running hs) (by simp [hkept]) fun hwaits => ⟨by simp [hkept, hwaits], by simp [hkept]⟩,
    ?_, fun hquiet => ?_⟩
  · simpa using posts_signals (s := s) (before := heard f s) (x := x) (extra := []) (by simp [hkept])
      (by simp [hkept]) (by rw [hposts]; simp [heard, hs.1.2])
  · have hsame : signals (heard f s) x = x := by
      obtain hseat | hstill := hquiet
      · exact signals_of_not_waiting (by simpa [hkept] using hseat)
      · rw [moved_iff, not_or, Bool.not_eq_true, Bool.not_eq_true] at hstill
        simp only [flush_keeps, signals_keeps] at hstill
        exact signals_of_still hstill.1 hstill.2 (by rw [hx]; rfl)
    rw [hsame]
    simpa using flush_eq_of_floor hs.1.2 hx

/-! ## The YIELD -/

/-- R30: a YIELD acts with its lane. -/
theorem clampBody_yield (lane reason : BitVec 3) :
    ∃ r, clampBody h.standing (.yield lane reason) = .yield lane r := by
  by_cases hr : reason.toNat ≤ 5
  · exact ⟨reason, by simp [clampBody, hr]⟩
  · exact ⟨0, by simp [clampBody, hr]⟩

/-- R56: the floor after the YIELD of another station. -/
theorem floorArrival_yield_fields (lane reason : BitVec 3) (u : State) :
    (∀ i : Fin 8, (floorArrival false false { head := h, body := .yield lane reason } u).lanes[i] =
      if i = laneOf lane ∧ u.lanes[i].holder? = some h.sender.toNat then .free else u.lanes[i]) ∧
    (floorArrival false false { head := h, body := .yield lane reason } u).window = u.window ∧
    (floorArrival false false { head := h, body := .yield lane reason } u).mark = u.mark ∧
    (floorArrival false false { head := h, body := .yield lane reason } u).mutes =
      if h.standing = .chair then muteLeave h.sender.toNat u.mutes else u.mutes := by
  have hfloor : floorArrival false false { head := h, body := .yield lane reason } u =
      viewArrival { head := h, body := .yield lane reason } u := rfl
  have hlanes : (viewArrival { head := h, body := .yield lane reason } u).lanes =
      yieldLanes h.sender.toNat (laneOf lane) u.lanes := by
    simp only [viewArrival]
    split <;> simp
  rw [hfloor]
  refine ⟨fun i => ?_, by simp, by simp, ?_⟩
  · rw [hlanes]
    refine (mapLanes_get _ _ i).trans ?_
    by_cases hi : i = laneOf lane <;> simp [hi, Lane.without]
  · simp only [viewArrival, decide_eq_true_eq]
    split <;> simp

/-- Settles O25: the seat does not answer to a YIELD. -/
theorem yieldArrivalFreesTheLaneOfItsSender : Obligations.YieldArrivalFreesTheLaneOfItsSender := by
  unfold Obligations.YieldArrivalFreesTheLaneOfItsSender
  intro h lane reason s hs hkey
  obtain ⟨r, hr⟩ := clampBody_yield (h := h) lane reason
  let f : Frame := { head := h, body := .yield lane reason }
  let g : Frame := { head := h, body := .yield lane r }
  refine gives_arrival (f := f) (g := g) hs rfl ((actingFrame_yield lane reason hs hkey).trans (by rw [hr])) ?_
  obtain ⟨hlanes, hwindow, hmark, hmutes⟩ := floorArrival_yield_fields (h := h) lane r (heard f s)
  have heq := floorArrival_eq (f := g) rfl false (heard f s)
  have hposts := floorArrival_posts (f := g) rfl false (heard f s)
  change ∀ i : Fin 8, (floorArrival false false g (heard f s)).lanes[i] = _ at hlanes
  change (floorArrival false false g (heard f s)).window = _ at hwindow
  change (floorArrival false false g (heard f s)).mark = _ at hmark
  change (floorArrival false false g (heard f s)).mutes = _ at hmutes
  generalize floorArrival false false g (heard f s) = x at *
  rw [show seatArrival g (heard f s) x = x from rfl]
  generalize ht : flush (signals (heard f s) x) = t
  obtain ⟨htlanes, htwindow, htmark, htmutes, htask, -, heval, htposts, hframe⟩ := quiet_arrival hs heq hposts ht.symm
  rw [hwindow] at htwindow
  rw [hmark] at htmark
  rw [hmutes] at htmutes
  have hview (i : Fin 8) : t.lanes[i] = _ := (congrArg (fun v : Vector Lane 8 => v[i]) htlanes).trans (hlanes i)
  refine ⟨hview, htmutes, htwindow, htmark, htask, htposts, fun ticket hlive hwaits hheld => ?_, fun hquiet => ?_⟩
  · refine (heval ticket hlive hwaits).1 (.inl ⟨laneOf lane, ?_⟩)
    rw [hview, if_pos ⟨rfl, hheld⟩, hheld]
    simp [Lane.holder?]
  · have hmoves := hframe (hquiet.imp_right fun hheld => ?_)
    · rwa [htwindow, htmark] at hmoves
    · refine not_or.mpr ⟨fun ⟨i, hi⟩ => hi ?_, not_not.mpr (by rw [htwindow]; rfl)⟩
      rw [hview, if_neg fun ⟨hi, hsender⟩ => hheld (hi ▸ hsender)]
      rfl

/-! ## The HOLD -/

/-- R57 to R59: the lane of a HOLD, by its holder before. -/
theorem holdLanes_same (a : Nat) (standing : Role) (n : Fin 8) (elapsed : Nat) (muting warned : Bool)
    (v : Vector Lane 8) :
    (holdLanes a standing n elapsed muting warned v)[n] =
      match v[n] with
      | .free => .held { holder := a, standing := standing, ticket := 0, age := elapsed, silence := 0,
                         muting := muting && decide (standing = .chair), warned := warned }
      | .held r =>
        if r.holder = a then
          .held { holder := a, standing := standing, ticket := r.ticket, age := elapsed, silence := 0,
                  muting := muting && decide (standing = .chair), warned := warned }
        else if a < r.holder then
          .held { holder := a, standing := standing, ticket := 0, age := elapsed, silence := 0,
                  muting := muting && decide (standing = .chair), warned := warned }
        else .held r := by
  unfold holdLanes
  cases hv : v[n] with
  | free => exact (Kept.claimLane_get _ _ _ _).trans (if_pos rfl)
  | held r =>
    dsimp only
    split
    · exact (Kept.claimLane_get _ _ _ _).trans (if_pos rfl)
    · split
      · exact (Kept.claimLane_get _ _ _ _).trans (if_pos rfl)
      · exact (freeOthers_get _ _ _ _).trans ((if_neg (by simp)).trans hv)

/-- R52, R57 to R59: another lane of the sender becomes FREE, unless the sender is a higher claimant and R52 stands. -/
theorem holdLanes_other {a : Nat} {standing : Role} {n i : Fin 8} {elapsed : Nat} {muting warned : Bool}
    {v : Vector Lane 8} (hi : i ≠ n) :
    (holdLanes a standing n elapsed muting warned v)[i] =
      if v[i].holder? = some a ∧ (!(v[n].heldBelow a) || Config.higherClaimFrees) = true then .free else v[i] := by
  have claimed (r : HeldLane) (hr : r.holder = a) (hfrees : (!(v[n].heldBelow a) || Config.higherClaimFrees) = true) :
      (claimLane n r v)[i] =
        if v[i].holder? = some a ∧ (!(v[n].heldBelow a) || Config.higherClaimFrees) = true then .free else v[i] := by
    rw [Kept.claimLane_get, if_neg hi, hr, hfrees]
    simp [Lane.without]
  unfold holdLanes
  cases hv : v[n] with
  | free => exact (claimed _ rfl (by simp [hv, Lane.heldBelow])).trans (by rw [hv])
  | held r =>
    dsimp only
    split
    next hself => exact (claimed _ rfl (by simp [hv, Lane.heldBelow, hself])).trans (by rw [hv])
    next hself =>
      split
      next hlower =>
        exact (claimed _ rfl (by simp [hv, Lane.heldBelow, Nat.not_lt.mpr (Nat.le_of_lt hlower)])).trans (by rw [hv])
      next hhigher =>
        have hbelow : Lane.heldBelow a (.held r) = true := decide_eq_true (by omega)
        rw [freeOthers_get, hbelow]
        simp [hi]

/-- R57 to R60: the floor after the HOLD of another station. -/
theorem floorArrival_hold_fields {n : Fin 8} (hkey : h.key.toNat = n.val) (elapsed : BitVec 16) (muting warned : Bool)
    (u : State) :
    (floorArrival false false { head := h, body := .hold elapsed muting warned } u).lanes =
      holdLanes h.sender.toNat h.standing n elapsed.toNat muting warned u.lanes ∧
    (floorArrival false false { head := h, body := .hold elapsed muting warned } u).window = u.window ∧
    (floorArrival false false { head := h, body := .hold elapsed muting warned } u).mark = u.mark ∧
    (floorArrival false false { head := h, body := .hold elapsed muting warned } u).mutes =
      (if h.standing = .chair then
        (if muting then muteJoin h.sender.toNat u.mutes else muteLeave h.sender.toNat u.mutes)
      else u.mutes) ∧
    (h.standing ≠ .chair →
      (floorArrival false false { head := h, body := .hold elapsed muting warned } u).st = u.st) := by
  have hfloor : floorArrival false false { head := h, body := .hold elapsed muting warned } u =
      viewArrival { head := h, body := .hold elapsed muting warned } u := rfl
  have hn : Fin.ofNat 8 h.key.toNat = n := by simp [hkey]
  rw [hfloor]
  simp only [viewArrival, decide_eq_true_eq, hn]
  split
  next hc => exact ⟨by simp, by simp, by simp, by simp, fun hno => absurd hc hno⟩
  next hc => exact ⟨by simp, by simp, by simp, by simp, fun _ => by simp⟩

/-- R126: a HOLD of another lane, or from a higher address, leaves the seat. -/
theorem seatHold_of_other {a : Nat} {n : Fin 8} {u : State}
    (hlane : ∀ o, u.seat.speaking? = some o → ¬ (o.lane = n ∧ a < u.addr)) : seatHold a n u = u := by
  unfold seatHold
  split
  next o ho => exact if_neg (hlane o ho)
  next => rfl

/-- R126, R172: what a seat does that loses its lane to a lower address. -/
def loseLane (u : State) : State :=
  if (u.isChair ∧ u.seat.speaking?.any OwnLane.muting) ∧ ¬ Config.mutingChairYields then enterIdle (speechEnd u)
  else yieldLane .conflict u

theorem seatHold_of_lower {a : Nat} {o : OwnLane} {u : State} (h : u.seat.speaking? = some o) (ha : a < u.addr) :
    seatHold a o.lane u = post .sa (.laneLost a) (loseLane u) := by
  simp [seatHold, loseLane, h, ha]

@[simp] theorem loseLane_keeps (u : State) :
    (loseLane u).addr = u.addr ∧ (loseLane u).lanes = u.lanes ∧ (loseLane u).mutes = u.mutes ∧
      (loseLane u).window = u.window ∧ (loseLane u).mark = u.mark ∧ (loseLane u).ownAsk = u.ownAsk ∧
      (loseLane u).order = u.order ∧ (loseLane u).flags = u.flags ∧ (loseLane u).vu = u.vu ∧
      (loseLane u).pp = u.pp ∧ (loseLane u).outbox = u.outbox ∧ (loseLane u).viewTicks = u.viewTicks := by
  unfold loseLane
  split <;> simp

/-- R126, R144, R172: a LIVE or WARNED seat that has lost its lane. -/
theorem loseLane_of_speaking {o : OwnLane} {u : State} (hspeaking : u.seat.speaking? = some o)
    (hfree : u.flying .floor = false) :
    (if u.role = .chair ∧ o.muting = true ∧ Config.mutingChairYields = false then
      (loseLane u).seat = .idle ∧ (loseLane u).sq = u.sq ∧ (loseLane u).gc.gateDelay = .stopped ∧
        (loseLane u).gc.laneSel = u.gc.laneSel ∧ (loseLane u).gc.spkMute = u.gc.spkMute
    else
      (loseLane u).seat = .yielding o .conflict ∧
        (loseLane u).sq = { u.sq with floor := some { content := .yield o.lane .conflict, count := 0 } } ∧
        (loseLane u).gc = { u.gc with gateDelay := .stopped }) ∧
    (loseLane u).seat.speaking? = none ∧ (loseLane u).st = (speechEnd u).st := by
  have hcond : ((u.isChair ∧ u.seat.speaking?.any OwnLane.muting) ∧ ¬ Config.mutingChairYields) ↔
      u.role = .chair ∧ o.muting = true ∧ Config.mutingChairYields = false := by
    simp [State.isChair, hspeaking, and_assoc]
  unfold loseLane
  simp only [hcond]
  split
  · simp [enterIdle_gc (u := speechEnd u) (by simp [own_of_speaking hspeaking]), Seat.speaking?]
  · simp [yieldLane_of_free .conflict hspeaking hfree, Seat.speaking?]

/-- Settles O26: the floor's part by the lane's record, the seat's by whether it loses its lane. -/
theorem holdArrivalLearnsRefreshesOrSettles : Obligations.HoldArrivalLearnsRefreshesOrSettles := by
  unfold Obligations.HoldArrivalLearnsRefreshesOrSettles
  intro h elapsed muting warned n s hs hkey
  let f : Frame := { head := h, body := .hold elapsed muting warned }
  let g : Frame := { head := h, body := .hold elapsed (muting && decide (h.standing = .chair)) warned }
  refine gives_arrival (f := f) (g := g) hs rfl (actingFrame_hold elapsed muting warned hs (by omega)) ?_
  obtain ⟨hlanes, hwindow, hmark, hmutes, hst⟩ :=
    floorArrival_hold_fields (h := h) hkey elapsed (muting && decide (h.standing = .chair)) warned (heard f s)
  have heq := floorArrival_eq (f := g) rfl false (heard f s)
  have hposts := floorArrival_posts (f := g) rfl false (heard f s)
  change (floorArrival false false g (heard f s)).lanes = _ at hlanes
  change (floorArrival false false g (heard f s)).window = _ at hwindow
  change (floorArrival false false g (heard f s)).mark = _ at hmark
  change (floorArrival false false g (heard f s)).mutes = _ at hmutes
  change h.standing ≠ .chair → (floorArrival false false g (heard f s)).st = _ at hst
  generalize floorArrival false false g (heard f s) = x at *
  have hkept := heard_floor_keeps heq
  have hlane : x.lanes[n] = _ :=
    (congrArg (fun v : Vector Lane 8 => v[n]) hlanes).trans (holdLanes_same _ _ n _ _ _ s.lanes)
  have hothers (i : Fin 8) (hi : i ≠ n) : x.lanes[i] = _ :=
    (congrArg (fun v : Vector Lane 8 => v[i]) hlanes).trans (holdLanes_other (v := s.lanes) hi)
  simp only [Bool.and_assoc, Bool.and_self] at hlane
  have hmutes' := hmutes.trans (clearing_at_chair h muting _ _ _)
  have hseat : seatArrival g (heard f s) x = seatHold h.sender.toNat n x := by
    have hn : Fin.ofNat 8 h.key.toNat = n := by simp [hkey]
    simp only [seatArrival, g, hn, hkept]
    exact if_neg (Hears.other hs)
  rw [hseat]
  by_cases hlost : ∃ o, s.seat.speaking? = some o ∧ o.lane = n ∧ h.sender.toNat < s.addr
  case neg =>
    rw [seatHold_of_other (by simpa [hkept] using hlost)]
    generalize ht : flush (signals (heard f s) x) = t
    obtain ⟨htlanes, htwindow, htmark, htmutes, htask, -, heval, htposts, hframe⟩ :=
      quiet_arrival hs heq hposts ht.symm
    rw [hwindow] at htwindow
    rw [hmark] at htmark
    refine ⟨by rw [htlanes]; exact hlane, fun i hi => by rw [htlanes]; exact hothers i hi, htmutes.trans hmutes',
      htwindow, htmark, htask, heval, ?_, fun hwaits _ => ?_, fun o hspeaking ho => ⟨fun ha => ?_, fun _ => ?_⟩⟩
    · split
      next o hspeaking => rwa [if_neg fun hboth => hlost ⟨o, hspeaking, hboth⟩, List.append_nil]
      next => rwa [List.append_nil]
    · have hmoves := hframe (.inl hwaits)
      rwa [htwindow, htmark] at hmoves
    · exact absurd ⟨o, hspeaking, ho, ha⟩ hlost
    · have hmoves := hframe (.inl fun hw => by rw [hw] at hspeaking; cases hspeaking)
      have htst : t.st = x.st := by
        rw [← ht]
        simp
      refine ⟨by rw [hmoves], by rw [hmoves], by rw [hmoves], by rw [hmoves], fun hc => ?_⟩
      rw [htst]
      exact hst hc
  case pos =>
    obtain ⟨o, hspeaking, rfl, ha⟩ := hlost
    have hspx : x.seat.speaking? = some o := by simp [hkept, hspeaking]
    have hfree : x.flying .floor = false := by simpa [State.flying, hkept] using Hears.flying (f := f) hs .floor
    obtain ⟨hleft, hsilent, hended⟩ := loseLane_of_speaking hspx hfree
    rw [seatHold_of_lower hspx (by simpa [hkept] using ha),
      signals_of_not_waiting fun hw => by
        rw [post_seat] at hw
        split at hleft <;> simp [hw] at hleft]
    have hall := posts_of_perm (s := s) (u := post .sa (.laneLost h.sender.toNat) (loseLane x))
      (posted := s.floorEvents (flush (post .sa (.laneLost h.sender.toNat) (loseLane x))) ++ [.laneLost h.sender.toNat])
      (by simp [hkept]) (by simp [floorEvents_eq, hkept, hposts, heard, hs.1.2])
    generalize hy : loseLane x = y at *
    have hykept := loseLane_keeps x
    rw [hy] at hykept
    refine ⟨?_, fun i hi => ?_, ?_, by simp [hykept, hwindow, heard], by simp [hykept, hmark, heard],
      by simp [hykept, hkept], fun _ _ hwaits => absurd hspeaking (by simp [hwaits, Seat.speaking?]), ?_,
      fun _ hno => absurd rfl (hno o hspeaking), fun o' ho' _ => ?_⟩
    · rw [show (flush (post .sa (.laneLost h.sender.toNat) y)).lanes = x.lanes by simp [hykept]]
      exact hlane
    · rw [show (flush (post .sa (.laneLost h.sender.toNat) y)).lanes = x.lanes by simp [hykept]]
      exact hothers i hi
    · rw [show (flush (post .sa (.laneLost h.sender.toNat) y)).mutes = x.mutes by simp [hykept]]
      exact hmutes'
    · rw [hspeaking]
      dsimp only
      rwa [if_pos ⟨rfl, ha⟩]
    · obtain rfl : o = o' := Option.some.inj (hspeaking.symm.trans ho')
      refine ⟨fun _ => ⟨?_, gateOpen_of_silent (by simpa using hsilent), by simp [hykept, hkept], fun hsp => ?_,
        fun hview hlen hno => ?_⟩, fun hhigher => absurd ha (by omega)⟩
      · simpa [hkept] using hleft
      · have hspeak : x.st.speaking = true := by rw [heq]; exact hsp
        simp only [flush_keeps, post_st, hended, speechEnd_st hspeak]
        rw [heq]
        rfl
      · have hfew : (lanePosts s.lanes x.lanes).length ≤ 2 :=
          lanePosts_length_of_claim (n := o.lane) (a := h.sender.toNat) hview fun i hi hholder => by
            rw [hothers i hi]
            exact if_neg fun hboth => hholder hboth.1
        have hfloorLen := floorEvents_length s (flush (post .sa (.laneLost h.sender.toNat) y)) (by simp [hykept, hkept])
        simp only [flush_keeps, post_lanes, hykept] at hfloorLen
        exact mem_of_posts hall rfl (by simp) (by simp [overrun_notMem_floorEvents])
          (by simp only [List.length_append, List.length_singleton]; omega) hno (by simp [hykept, hkept])

end Sys2Proof.Instant
end

section

/-! A chair's mute at a speaking seat (R69, R141, R158, R176). -/

namespace Sys2Proof.Instant

open Sys2Proof Sys2Proof.Machine

-- One proof at a time: the text is compiled in bounded memory.
set_option Elab.async false

variable {h : Header} {s : State}

theorem timerMute_true_st (u : State) :
    (timerMute true u).st = { u.st with phase := match u.st.phase with | .counting c => .paused c | p => p } := by
  unfold timerMute
  cases hphase : u.st.phase <;> simp [← hphase]

theorem timerMute_false_st (u : State) :
    (timerMute false u).st = { u.st with phase := match u.st.phase with | .paused c => .counting c | p => p } := by
  unfold timerMute
  cases hphase : u.st.phase <;> simp [← hphase]

/-- R141: a list that becomes non-empty pauses a timer that counts. -/
theorem setMutes_st_of_muted {l : List MuteSource} (hl : l.isEmpty = false) (hs : s.mutes = []) :
    (setMutes l s).st = { s.st with phase := match s.st.phase with | .counting c => .paused c | p => p } := by
  simp only [setMutes, hl, hs, List.isEmpty_nil, Bool.false_eq_true, if_false, Bool.not_false]
  exact timerMute_true_st _

/-- R141: a list that becomes empty starts a paused timer again. -/
theorem setMutes_st_of_cleared (hs : s.mutes.isEmpty = false) :
    (setMutes [] s).st = { s.st with phase := match s.st.phase with | .paused c => .counting c | p => p } := by
  simp only [setMutes, hs, List.isEmpty_nil, Bool.true_eq_false, if_false, Bool.not_true]
  exact timerMute_false_st _

theorem floorArrival_take_st (lane : BitVec 3) (displace : Bool) {u : State} (hother : h.sender.toNat ≠ u.addr)
    (hchair : h.standing = .chair) (hmutes : u.mutes = []) :
    (floorArrival false false { head := h, body := .take lane displace true } u).st =
      { u.st with phase := match u.st.phase with | .counting c => .paused c | p => p } := by
  rw [floorArrival_take _ _ _ _ hother]
  simp only [setWindow_keeps, raiseMark_st, viewArrival, hchair, decide_true, if_true, setLanes_mutes, hmutes]
  exact setMutes_st_of_muted (by simp [muteJoin]) hmutes

theorem floorArrival_hold_st (elapsed : BitVec 16) {u : State} (hchair : h.standing = .chair) {silence : Nat}
    (hmutes : u.mutes = [{ chair := h.sender.toNat, silence := silence }]) :
    (floorArrival false false { head := h, body := .hold elapsed false false } u).st =
      { u.st with phase := match u.st.phase with | .paused c => .counting c | p => p } := by
  have hfloor : floorArrival false false { head := h, body := .hold elapsed false false } u =
      viewArrival { head := h, body := .hold elapsed false false } u := rfl
  have hleft : muteLeave h.sender.toNat u.mutes = [] := by simp [hmutes, muteLeave]
  rw [hfloor]
  simp only [viewArrival, hchair, decide_true, if_true, Bool.false_eq_true, if_false, setLanes_mutes, hleft]
  exact setMutes_st_of_cleared (by simp [hmutes])

/-- R158, R176: what gate and lamp of a speaking seat show after an arrival that changes no more than the floor. -/
theorem gate_and_ring_of_speaking {t : State} {o : OwnLane} (hready : s.Ready) (hclash : s.flags.clash = false)
    (hspeaks : s.seat = .live o ∨ s.seat = .warned o) (hrole : t.role = s.role) (hseat : t.seat = s.seat)
    (hflags : t.flags = s.flags) (hgc : t.gc = s.gc) (hlow : t.resetLow = s.resetLow) :
    t.gateOpen = (decide (s.gc.gateDelay = .expired) && !s.flags.cough && (s.isChair || !t.muteActive)) ∧
      t.ring = if (t.muteActive && !s.isChair) = true then .blinkSlow else if s.seat = .live o then .on else .blinkFast := by
  obtain ⟨hhigh, -⟩ := hready
  have hchair : t.isChair = s.isChair := by simp [State.isChair, hrole]
  obtain h | h := hspeaks <;>
    simp [State.gateOpen, State.ring, hchair, hseat, hflags, hgc, hlow, hhigh, hclash, h, Seat.speaking?]

/-- Settles O27: the mute source list becomes non-empty, or empty, and the gate, the timer and the ring follow it. -/
theorem muteClosesGatesAndPausesTimers : Obligations.MuteClosesGatesAndPausesTimers := by
  unfold Obligations.MuteClosesGatesAndPausesTimers
  intro h lane n displace elapsed o s hs hchair hclash hspeaks hlaw
  have hspeaking : s.seat.speaking? = some o := by obtain hseat | hseat := hspeaks <;> rw [hseat] <;> rfl
  have hwaits : s.seat ≠ .waiting := fun hw => by rw [hw] at hspeaking; cases hspeaking
  refine ⟨fun hlane hmutes => ?_, fun hlane hkey ⟨silence, hmutes⟩ => ?_⟩
  · let f : Frame := { head := h, body := .take lane displace true }
    refine gives_arrival (f := f) (g := f) hs rfl
      ((actingFrame_take lane displace true hs).trans (by simp [f, hchair])) ?_
    obtain ⟨-, -, -, hxmutes⟩ := floorArrival_take_fields (h := h) (u := heard f s) lane displace true
      (Hears.other (s := s) hs)
    have hst := floorArrival_take_st (h := h) (u := heard f s) lane displace (Hears.other (s := s) hs) hchair hmutes
    have heq := floorArrival_eq (f := f) rfl false (heard f s)
    change (floorArrival false false f (heard f s)).mutes = _ at hxmutes
    change (floorArrival false false f (heard f s)).st = _ at hst
    generalize floorArrival false false f (heard f s) = x at *
    have hkept := heard_floor_keeps heq
    have hseat : x.seat = s.seat := by simp [hkept]
    have hstays : seatArrival f (heard f s) x = x :=
      seatArrival_take_of_other fun o' ho' hlane' => by
        rw [hseat, own_of_speaking hspeaking] at ho'
        exact hlane (Option.some.inj ho' ▸ hlane')
    rw [hstays, signals_of_not_waiting (by rwa [hseat])]
    have hactive : (flush x).muteActive = true := by
      have hempty : (heard f s).mutes = [] := hmutes
      simp [State.muteActive, hxmutes, hchair, hempty, muteJoin]
    obtain ⟨hgate, hring⟩ := gate_and_ring_of_speaking (t := flush x) hs.1 hclash hspeaks (by simp [hkept])
      (by simp [hkept]) (by simp [hkept]) (by simp [hkept]) (by simp [hkept])
    have hfst : (flush x).st = _ := (by simp : (flush x).st = x.st).trans hst
    refine ⟨hactive, by simp [hkept], by simp [hkept], hfst, fun hrole => ?_, fun hrole => ?_⟩
    · rw [hgate, hring, hactive]
      simp [State.isChair, hrole]
    · refine ⟨hfst.trans ?_, ?_, fun hlive => ?_⟩
      · have hidle : s.st.phase = .idle := hlaw hrole
        change { s.st with phase := match s.st.phase with | .counting c => .paused c | p => p } = s.st
        rw [hidle]
        dsimp only
        rw [← hidle]
      · rw [hgate]
        simp [State.gateOpen, hs.1.1, hspeaking, State.isChair, hrole]
      · rw [hring]
        simp [State.isChair, hrole, hlive]
  · let f : Frame := { head := h, body := .hold elapsed false false }
    refine gives_arrival (f := f) (g := f) hs rfl
      ((actingFrame_hold elapsed false false hs (by omega)).trans (by simp [f])) ?_
    obtain ⟨-, -, -, hxmutes, -⟩ := floorArrival_hold_fields (h := h) hkey elapsed false false (heard f s)
    have hst := floorArrival_hold_st (u := heard f s) elapsed hchair hmutes
    have heq := floorArrival_eq (f := f) rfl false (heard f s)
    change (floorArrival false false f (heard f s)).mutes = _ at hxmutes
    change (floorArrival false false f (heard f s)).st = _ at hst
    generalize floorArrival false false f (heard f s) = x at *
    have hkept := heard_floor_keeps heq
    have hseat : x.seat = s.seat := by simp [hkept]
    have hstays : seatArrival f (heard f s) x = x := by
      have hn : Fin.ofNat 8 h.key.toNat = n := by simp [hkey]
      simp only [seatArrival, f, hn]
      rw [seatHold_of_other, ite_self]
      intro o' ho' hboth
      rw [hseat, hspeaking] at ho'
      exact hlane (Option.some.inj ho' ▸ hboth.1)
    rw [hstays, signals_of_not_waiting (by rwa [hseat])]
    have hactive : (flush x).muteActive = false := by
      have hone : (heard f s).mutes = [{ chair := h.sender.toNat, silence := silence }] := hmutes
      simp [State.muteActive, hxmutes, hchair, hone, muteLeave]
    obtain ⟨hgate, hring⟩ := gate_and_ring_of_speaking (t := flush x) hs.1 hclash hspeaks (by simp [hkept])
      (by simp [hkept]) (by simp [hkept]) (by simp [hkept]) (by simp [hkept])
    have hfst : (flush x).st = _ := (by simp : (flush x).st = x.st).trans hst
    refine ⟨hactive, by simp [hkept], by simp [hkept], hfst, ?_, ?_⟩
    · rw [hgate, hactive]
      simp
    · rw [hring, hactive]
      simp

end Sys2Proof.Instant
end

section

/-! The arrivals of the DIRECTs (R28, R29, R61, R88, R115, R127, R129, R139). -/

namespace Sys2Proof.Instant

open Sys2Proof Sys2Proof.Machine

-- One proof at a time: the text is compiled in bounded memory.
set_option Elab.async false

variable {h : Header} {s : State}

/-! ## The acting frame -/

/-- R28, R29: a chair's DIRECT of one of the four actions acts, an EXTEND with its argument clamped. -/
theorem actingFrame_direct {target : AddrBits} {action : BitVec 3} (argument : BitVec 13) (hs : s.Hears h)
    (hchair : h.standing = .chair) (hkey : h.key.toNat = 0) (htarget : target.toNat ≤ 1000) (haction : action.toNat ≤ 3)
    (hgrant : action = 1 → target.toNat ≠ 0) :
    actingFrame { head := h, body := .direct target action argument } =
      some { head := h, body := .direct target action (if action = 2 then clampArgument argument else argument) } := by
  obtain ⟨haddress, -⟩ := headPasses_of_hears (f := { head := h, body := .direct target action argument }) hs
  have hzero : h.key = 0 := BitVec.eq_of_toNat_eq hkey
  have hnamed : action = 1 → target ≠ 0 := fun h1 h0 => hgrant h1 (by rw [h0]; rfl)
  refine Kept.actingFrame_eq_some_iff.mpr ⟨by simp [headPasses, haddress, hchair], ?_, ?_⟩
  · simpa [bodyPasses, hzero, htarget, haction] using imp_iff_not_or.mp hnamed
  · by_cases h2 : action = 2
    · simp only [clampBody, if_pos h2]
    · simp only [clampBody, if_neg h2]

theorem zero_iff_toNat {n : Nat} (b : BitVec n) : b = 0 ↔ b.toNat = 0 := by
  rw [← BitVec.toNat_inj]
  simp

/-! ## CUT -/

/-- R61: the floor after a CUT. -/
theorem floorArrival_cut_fields (target : AddrBits) (argument : BitVec 13) {u x : State}
    (hx : x = floorArrival false false { head := h, body := .direct target 0 argument } u) :
    x = withFloorOf u x ∧
    x.outbox.map Posted.event =
      u.outbox.map Posted.event ++ (lanePosts u.lanes x.lanes ++ mutePosts u.mutes x.mutes ++ linePosts u.window x.window) ∧
    (∀ i : Fin 8, x.lanes[i] = match u.lanes[i] with
      | .free => .free
      | .held r =>
        if (r.standing = .priority ∨ r.standing = .delegate) ∧ (target.toNat = 0 ∨ r.holder = target.toNat) then .free
        else .held r) ∧
    x.mutes = u.mutes ∧ x.window = u.window ∧ x.mark = u.mark ∧ x.st = u.st := by
  have hfloor : x = setLanes (cutLanes target.toNat u.lanes) u := by
    rw [hx]
    simp [floorArrival, viewArrival, lineArrival, orderArrivalFO, timerArrival]
  subst hfloor
  refine ⟨rfl, ?_, fun i => (mapLanes_get _ u.lanes i).trans ?_, rfl, rfl, rfl, rfl⟩
  · rw [setLanes_posts]
    simp
  · cases u.lanes[i] <;> rfl

/-- R127: a CUT at the seat: only a PRIORITY or DELEGATE seat that it names answers to it. -/
theorem seatArrival_cut (target : AddrBits) (argument : BitVec 13) (before x : State) :
    seatArrival { head := h, body := .direct target 0 argument } before x =
      if (target.toNat = 0 ∨ target.toNat = x.addr) ∧ x.isDelegateSeat = true then seatCut x else x := by
  simp only [seatArrival, zero_iff_toNat]
  simp

theorem seatCut_of_speaking {o : OwnLane} {u : State} (hu : u.seat.speaking? = some o) :
    seatCut u = post .sa (.cut o.lane) (enterIdle (speechEnd u)) := by
  unfold seatCut
  cases hseat : u.seat <;> simp_all [Seat.speaking?]

theorem seatCut_of_silent {u : State} (hu : u.seat.own? = none) : seatCut u = u := by
  unfold seatCut
  cases hseat : u.seat <;> simp_all [Seat.own?]

theorem seat_of_speaking {x : Seat} {o : OwnLane} (hx : x.speaking? = some o) : x = .live o ∨ x = .warned o := by
  cases x <;> simp_all [Seat.speaking?]

theorem seat_of_yielding {x : Seat} (hx : x.speaking? = none) (hown : x.own?.isSome = true) :
    ∃ o r, x = .yielding o r := by
  cases x <;> simp_all [Seat.speaking?, Seat.own?]

/-- Settles O28, by whether the CUT names the seat, and whether the seat speaks, yields or holds no lane. -/
theorem cutArrivalFreesDelegateLanes : Obligations.CutArrivalFreesDelegateLanes := by
  unfold Obligations.CutArrivalFreesDelegateLanes
  intro h target argument s hs hchair hkey htarget
  let f : Frame := { head := h, body := .direct target 0 argument }
  refine gives_arrival (f := f) (g := f) hs rfl
    ((actingFrame_direct argument hs hchair hkey htarget (by decide) fun h1 => by cases h1).trans (by simp [f])) ?_
  generalize hx : floorArrival false false f (heard f s) = x
  obtain ⟨heq, hposts, hlanes, hmutes, hwindow, hmark, hst⟩ := floorArrival_cut_fields (h := h) target argument hx.symm
  change x.mutes = s.mutes at hmutes
  change x.window = s.window at hwindow
  change x.mark = s.mark at hmark
  change x.st = s.st at hst
  have hkept := heard_floor_keeps heq
  rw [seatArrival_cut, hkept.1, show x.isDelegateSeat = s.isDelegateSeat by simp [State.isDelegateSeat, hkept]]
  have hlanesAt {t : State} (ht : t.lanes = x.lanes) (i : Fin 8) : t.lanes[i] = _ :=
    (congrArg (fun v : Vector Lane 8 => v[i]) ht).trans (hlanes i)
  by_cases hcut : (target.toNat = 0 ∨ target.toNat = s.addr) ∧ s.isDelegateSeat = true
  case neg =>
    rw [if_neg hcut]
    generalize ht : flush (signals (heard f s) x) = t
    obtain ⟨htlanes, htwindow, htmark, htmutes, htask, htorder, heval, htposts, hframe⟩ :=
      quiet_arrival hs heq hposts ht.symm
    refine ⟨hlanesAt htlanes, htmutes.trans hmutes, htwindow.trans hwindow, htmark.trans hmark, htask, htorder, heval,
      ?_, fun hnamed hseat => absurd ⟨hnamed, hseat⟩ hcut, fun _ hwaits => ?_⟩
    · split
      next => rwa [if_neg hcut, List.append_nil]
      next => rwa [List.append_nil]
    · have hmoves := hframe (.inl hwaits)
      have htst : t.st = s.st := by
        rw [← ht]
        simpa using hst
      rw [htwindow.trans hwindow, htmark.trans hmark, htmutes.trans hmutes, htst] at hmoves
      exact hmoves
  case pos =>
    rw [if_pos hcut]
    have hposted : x.outbox.map Posted.event =
        lanePosts s.lanes x.lanes ++ mutePosts s.mutes x.mutes ++ linePosts s.window x.window := by
      rw [hposts]
      simp [heard, hs.1.2]
    cases hspeaking : s.seat.speaking? with
    | some o =>
      have hwaits : s.seat ≠ .waiting := fun hw => by rw [hw] at hspeaking; cases hspeaking
      rw [seatCut_of_speaking (o := o) (by simp [hkept, hspeaking]), signals_of_not_waiting (by simp)]
      have hall := posts_of_perm (s := s) (u := post .sa (.cut o.lane) (enterIdle (speechEnd x)))
        (posted := s.floorEvents (flush (post .sa (.cut o.lane) (enterIdle (speechEnd x)))) ++ [.cut o.lane])
        (by simp [hkept]) (by simp [hposted, floorEvents_eq, hkept])
      have hlen := floorEvents_length s (flush (post .sa (.cut o.lane) (enterIdle (speechEnd x)))) (by simp [hkept])
      simp only [flush_keeps, post_lanes, enterIdle_keeps, speechEnd_keeps] at hlen
      have height := lanePosts_length s.lanes x.lanes
      refine ⟨hlanesAt (by simp), by simpa using hmutes, by simpa using hwindow, by simpa using hmark, by simp [hkept],
        by simp [hkept], fun _ _ hw => absurd hw hwaits, ?_, fun _ _ => ?_, fun hno => absurd hcut hno⟩
      · dsimp only
        rwa [if_pos hcut]
      · have hended : s.st.speaking = true →
            (flush (post .sa (.cut o.lane) (enterIdle (speechEnd x)))).st.speaking = false ∧
              (flush (post .sa (.cut o.lane) (enterIdle (speechEnd x)))).st.lastSpeech = s.st.elapsed := fun hsp => by
          have hspx : x.st.speaking = true := by rw [hst]; exact hsp
          simp [speechEnd_st hspx, hst]
        have hmem (hroom : s.pp.events.length ≤ 7) (hno : ∀ r ∈ s.pp.events, r.event ≠ .overrun) :
            { event := .cut o.lane, stamp := s.viewTicks : EventRec } ∈
              (flush (post .sa (.cut o.lane) (enterIdle (speechEnd x)))).pp.events := by
          have hmoved : linePosts s.window x.window = [] := by rw [hwindow]; exact linePosts_self _
          have hmuted : mutePosts s.mutes x.mutes = [] := by rw [hmutes]; exact mutePosts_self _
          refine mem_of_posts hall rfl (by simp) (by simp [overrun_notMem_floorEvents]) ?_ hno (by simp [hkept])
          simp only [floorEvents_eq, flush_keeps, post_lanes, post_mutes, post_window, post_vu, enterIdle_keeps,
            speechEnd_keeps, hkept, hmoved, hmuted, trimPosts_self, List.length_append, List.length_nil,
            List.length_singleton]
          omega
        obtain hseat | hseat := seat_of_speaking hspeaking <;>
        · simp only [hseat]
          exact ⟨by simp, by simp [hkept], gateOpen_of_silent (by simp [Seat.speaking?]), hended, hmem⟩
    | none =>
      by_cases hown : s.seat.own?.isSome = true
      · have hfree : x.flying .floor = false := by simpa [State.flying, hkept] using Hears.flying (f := f) hs .floor
        obtain ⟨o, r, hseat⟩ := seat_of_yielding hspeaking hown
        have hcutx : seatCut x = enterIdle (removeFloor x) := by simp [seatCut, hkept, hseat]
        rw [hcutx, signals_of_not_waiting (by simp)]
        refine ⟨hlanesAt (by simp), by simpa using hmutes, by simpa using hwindow, by simpa using hmark, by simp [hkept],
          by simp [hkept], fun _ _ hw => by simp [hw, Seat.own?] at hown, ?_, fun _ _ => ?_, fun hno => absurd hcut hno⟩
        · dsimp only
          rw [List.append_nil]
          exact posts_of_perm (by simp [hkept]) (by simp [hposted, floorEvents_eq, hkept])
        · simp only [hseat]
          exact ⟨by simp, by simp [removeFloor_of_free hfree, hkept]⟩
      · rw [seatCut_of_silent (by simpa [hkept] using hown)]
        generalize ht : flush (signals (heard f s) x) = t
        obtain ⟨htlanes, htwindow, htmark, htmutes, htask, htorder, heval, htposts, hframe⟩ :=
          quiet_arrival hs heq hposts ht.symm
        refine ⟨hlanesAt htlanes, htmutes.trans hmutes, htwindow.trans hwindow, htmark.trans hmark, htask, htorder, heval,
          by simpa using htposts, fun _ _ => ?_, fun hno => absurd hcut hno⟩
        have hstays (hwaits : s.seat ≠ .waiting) : t.seat = s.seat ∧ t.sq = s.sq := by
          rw [hframe (.inl hwaits)]
          exact ⟨rfl, rfl⟩
        split
        next hlive => simp [hlive, Seat.own?] at hown
        next hwarned => simp [hwarned, Seat.own?] at hown
        next hyielding => simp [hyielding, Seat.own?] at hown
        next => trivial
        next hwaits => exact hstays hwaits

/-! ## GRANT -/

/-- A DIRECT that is no CUT and no DROP_ASK moves neither the view nor the line. -/
theorem floorArrival_grant (target : AddrBits) (argument : BitVec 13) (u : State) :
    floorArrival false false { head := h, body := .direct target 1 argument } u = u := by
  simp [floorArrival, viewArrival, lineArrival, orderArrivalFO, timerArrival]

/-- R115: a GRANT at the seat: only the PRIORITY or DELEGATE seat that it names answers to it. -/
theorem seatArrival_grant (target : AddrBits) (argument : BitVec 13) (before x : State) :
    seatArrival { head := h, body := .direct target 1 argument } before x =
      if target.toNat = x.addr ∧ x.isDelegateSeat = true then seatGrant h.sender.toNat x else x := by
  simp [seatArrival]

/-- R35: a station that has heard a frame and done no more. -/
theorem flush_heard (f : Frame) (hs : s.outbox = []) :
    flush (heard f s) = { s with
      li := s.li.afterSlot,
      pp := { s.pp with feed := (flush (heard f s)).pp.feed, overflow := (flush (heard f s)).pp.overflow,
                        overflowSince := (flush (heard f s)).pp.overflowSince } } := by
  rw [flush_of_empty (by exact hs), state_eq_iff]
  simpa [heard] using offerFeed_pp false f s

/-- R35, R185: a station that has heard a frame and posts one event. -/
theorem posting_heard (f : Frame) (e : Event) :
    (heard f s).posting e = { s with
      li := s.li.afterSlot, freeCount := s.freeCount + 1,
      pp := { s.pp with
        events := enqueueEvent s.viewTicks s.pp.reading s.pp.events e,
        feed := ((heard f s).posting e).pp.feed, overflow := ((heard f s).posting e).pp.overflow,
        overflowSince := ((heard f s).posting e).pp.overflowSince } } := by
  have hpp := offerFeed_pp false f s
  simp only [State.posting, heard]
  rw [hpp]

/-- The signals of an arrival after which the view, the line and the order stand as before. -/
theorem signals_of_same {before x : State} (hlanes : x.lanes = before.lanes) (hwindow : x.window = before.window)
    (horder : x.order = before.order) : signals before x = x :=
  signals_of_still (by rw [hlanes]; simp [viewMoved]) (by rw [hwindow]; simp [lineMoved]) horder

/-- R115: a GRANT at the WAITING seat that it names, with a lane FREE. -/
theorem seatGrant_of_free {u : State} {ticket : Nat} {lane : Fin 8} {rest : List (Fin 8)} (a : Nat)
    (hseat : u.seat = .waiting) (hask : u.ownAsk = .live ticket) (hrunning : u.flags.restartPending = false)
    (hlanes : u.freeLanes = lane :: rest) :
    seatGrant a u =
      beginTake { kind := .grant, lane := lane, key := ticket, displace := false, muting := false, mode := u.order.mode,
                  grantor := a } u := by
  simp [seatGrant, hseat, hask, hrunning, hlanes]

/-- R115: a GRANT at the WAITING seat that it names, with no lane FREE. -/
theorem seatGrant_of_full {u : State} {ticket : Nat} (a : Nat) (hseat : u.seat = .waiting)
    (hask : u.ownAsk = .live ticket) (hrunning : u.flags.restartPending = false) (hlanes : u.freeLanes = []) :
    seatGrant a u = post .sa (.grantNoLane a) u := by
  simp [seatGrant, hseat, hask, hrunning, hlanes]

/-- R115: a seat that does not wait, or has no ticket, ignores a GRANT. -/
theorem seatGrant_of_other {u : State} (a : Nat) (h : u.seat ≠ .waiting ∨ ∀ ticket, u.ownAsk ≠ .live ticket) :
    seatGrant a u = u := by
  unfold seatGrant
  split
  next ticket hseat hask => exact absurd hseat (h.resolve_right fun hno => hno ticket hask)
  next => rfl

/-- Settles O29, by whether the GRANT names a WAITING seat whose ask is LIVE, and by the free list. -/
theorem grantArrivalMakesItsTargetTake : Obligations.GrantArrivalMakesItsTargetTake := by
  unfold Obligations.GrantArrivalMakesItsTargetTake
  intro h target argument s hs hchair hkey hlo hhi
  let f : Frame := { head := h, body := .direct target 1 argument }
  refine gives_arrival (f := f) (g := f) hs rfl
    ((actingFrame_direct argument hs hchair hkey hhi (by decide) fun _ => by omega).trans (by simp [f])) ?_
  rw [floorArrival_grant, seatArrival_grant]
  have hout : (heard f s).outbox = [] := hs.1.2
  have hignored : (fun t : State => t = { s with
      li := s.li.afterSlot,
      pp := { s.pp with feed := t.pp.feed, overflow := t.pp.overflow, overflowSince := t.pp.overflowSince } })
      (flush (signals (heard f s) (heard f s))) := by
    rw [signals_of_same rfl rfl rfl]
    exact flush_heard f hs.1.2
  by_cases hnamed : target.toNat = s.addr ∧ s.isDelegateSeat = true
  case neg =>
    rw [if_neg hnamed, if_neg (by exact hnamed)]
    exact hignored
  case pos =>
    rw [if_pos hnamed, if_pos (by exact hnamed)]
    split
    next ticket lane rest hseat hask hlanes =>
      rw [seatGrant_of_free (u := heard f s) _ hseat hask (Hears.running (s := s) hs) hlanes,
        signals_of_same (by simp) (by simp) (by simp)]
      generalize hk :
        ({ kind := .grant, lane := lane, key := ticket, displace := false, muting := false,
           mode := (heard f s).order.mode, grantor := h.sender.toNat } : IntendedTake) = k
      have hsq : (beginTake k (heard f s)).sq = { s.sq with floor := some { content := .take, count := 0 } } := by
        rw [beginTake, placeFloor_of_free _ (by simpa [State.flying, heard] using Hears.flying (f := f) (s := s) hs .floor)]
        simp [heard]
      have hpp := flush_pp_of_heard (f := f) (s := s) (u := beginTake k (heard f s)) (by simp)
      refine ⟨?_, by simpa using hsq, by simp [Envelope.beginTake_vu],
        posts_of_perm (by simpa using heard_events f s) ?_, ?_⟩
      · rw [← hk]
        simp [beginTake, enterTaking, heard]
      · rw [beginTake_posts, hout]
        simp [floorEvents_eq, heard]
      · rw [state_eq_iff]
        simpa [Envelope.beginTake_vu, hs.1.2, heard] using hpp
    next ticket hseat hask hlanes =>
      rw [seatGrant_of_full (u := heard f s) _ hseat hask (Hears.running (s := s) hs) hlanes,
        signals_of_same (by simp) (by simp) (by simp), flush_post _ _ hout]
      exact posting_heard f _
    next hother hother' =>
      rw [seatGrant_of_other (u := heard f s) _ ?_]
      · exact hignored
      · by_contra hboth
        rw [not_or, not_not, not_forall] at hboth
        obtain ⟨hseat, ticket, hask⟩ := hboth
        rw [not_not] at hask
        cases hlanes : s.freeLanes with
        | nil => exact hother' ticket hseat hask hlanes
        | cons lane rest => exact hother ticket lane rest hseat hask hlanes

end Sys2Proof.Instant
end

section

/-! The arrivals of an EXTEND and a DROP_ASK (R29, R88, R129, R139). -/

namespace Sys2Proof.Instant

open Sys2Proof Sys2Proof.Machine

-- One proof at a time: the text is compiled in bounded memory.
set_option Elab.async false

variable {h : Header} {s : State}

/-! ## EXTEND -/

/-- R29: an argument of -4096 is taken as -4095. -/
theorem clampArgument_toInt (a : BitVec 13) : (clampArgument a).toInt = max (-4095) a.toInt := by
  unfold clampArgument
  split
  next h => rw [h]; decide
  next h =>
    have hlow : -4096 ≤ a.toInt := by simpa using BitVec.le_toInt a
    have hne : a.toInt ≠ -4096 := fun hint => h (BitVec.eq_of_toInt_eq (by rw [hint]; decide))
    omega

/-- R139: the timer after an EXTEND. -/
theorem floorArrival_extend (target : AddrBits) (argument : BitVec 13) (u : State) :
    floorArrival false false { head := h, body := .direct target 2 argument } u =
      { u with st := { u.st with
          correction :=
            if (target.toNat = 0 ∨ target.toNat = u.addr) ∧ u.st.phase ≠ .idle then
              max (-4095) (min 4095 (u.st.correction + argument.toInt))
            else u.st.correction } } := by
  have htimer : floorArrival false false { head := h, body := .direct target 2 argument } u =
      timerArrival { head := h, body := .direct target 2 argument } u := by
    simp [floorArrival, viewArrival, lineArrival, orderArrivalFO]
  rw [htimer]
  simp only [timerArrival, zero_iff_toNat, true_and]
  split <;> rfl

/-- Settles O30: the seat and the floor stand as they are, so nothing is posted. -/
theorem extendArrivalAddsToThePendingCorrection : Obligations.ExtendArrivalAddsToThePendingCorrection := by
  unfold Obligations.ExtendArrivalAddsToThePendingCorrection
  intro h target argument s hs hchair hkey htarget
  let f : Frame := { head := h, body := .direct target 2 argument }
  let g : Frame := { head := h, body := .direct target 2 (clampArgument argument) }
  refine gives_arrival (f := f) (g := g) hs rfl
    ((actingFrame_direct argument hs hchair hkey htarget (by decide) fun h1 => by cases h1).trans (by simp [g])) ?_
  rw [floorArrival_extend, clampArgument_toInt]
  have hseat (x : State) : seatArrival g (heard f s) x = x := by simp [seatArrival, g]
  rw [hseat, signals_of_same (by rfl) (by rfl) (by rfl), flush_of_empty (by exact hs.1.2), state_eq_iff]
  by_cases hruns : (target.toNat = 0 ∨ target.toNat = s.addr) ∧ ¬ s.st.phase = .idle <;>
    simpa [heard, hruns] using offerFeed_pp false f s

/-! ## The end of the Own Ask -/

/-- R83, R145: what the end of an Own Ask posts, and what becomes of the wait meter. -/
theorem endOwnAsk_posts (r : AskEnd) (u : State) :
    (endOwnAsk r u).outbox.map Posted.event =
      u.outbox.map Posted.event ++ if u.ownAsk ≠ .none then [.askEnded r] else [] := by
  unfold endOwnAsk
  split
  next h => simp [h]
  next => simp

theorem endOwnAsk_st {r : AskEnd} {u : State} (hr : r ≠ .taken) (hask : u.ownAsk ≠ .none) :
    (endOwnAsk r u).st = { u.st with waitMeter := 0 } := by
  simp [endOwnAsk, hr, hask]

/-- R113: without a ticket a seat evaluates to no effect. -/
theorem evaluate_of_no_ticket {u : State} (hask : u.ownAsk = .none) : evaluate u = u := by
  simp [evaluate, State.selfTake?, hask]

theorem signals_of_no_ticket {before u : State} (hask : u.ownAsk = .none) : signals before u = u := by
  unfold signals
  rw [evaluate_of_no_ticket hask, ite_self]

/-- R129: a seat leaves the line, a take from the line with it. -/
theorem seatAskEnded_seat {u : State} (hfree : u.flying .floor = false) :
    match u.seat with
    | .asking => (seatAskEnded u).seat = .idle ∧ (seatAskEnded u).sq = { u.sq with floor := none }
    | .waiting => (seatAskEnded u).seat = .idle ∧ (seatAskEnded u).sq = u.sq
    | .taking k =>
      if k.kind = .line ∨ k.kind = .grant then
        (seatAskEnded u).seat = .idle ∧ (seatAskEnded u).sq = { u.sq with floor := none }
      else seatAskEnded u = u
    | _ => seatAskEnded u = u := by
  unfold seatAskEnded
  cases hseat : u.seat with
  | asking => simp [removeFloor_of_free hfree]
  | waiting => simp
  | taking k => by_cases hk : k.kind = .line ∨ k.kind = .grant <;> simp [hk, removeFloor_of_free hfree]
  | _ => rfl

/-- R129: no WITHDRAW pending, nothing to remove. -/
theorem dropWithdraw_of_empty {u : State} (h : u.sq.floor = none) : dropWithdraw u = u := by
  simp [dropWithdraw, h]

theorem dropWithdraw_of_busy {u : State} (h : u.seat ≠ .idle) : dropWithdraw u = u := by
  unfold dropWithdraw
  split
  next hidle _ => exact absurd hidle h
  next => rfl

/-- R129: at an IDLE seat a WITHDRAW still pending is removed, and any other frame stays. -/
theorem dropWithdraw_sq {u : State} (h : u.seat = .idle) :
    match u.sq.floor with
    | some { content := .withdraw _ _, .. } => (dropWithdraw u).sq = { u.sq with floor := none }
    | _ => (dropWithdraw u).sq = u.sq := by
  cases hfloor : u.sq.floor with
  | none => simp [dropWithdraw, h, hfloor]
  | some x =>
    obtain ⟨content, count⟩ := x
    cases content <;> simp [dropWithdraw, h, hfloor]

/-! ## DROP_ASK -/

/-- R129: what a DROP_ASK does at a seat that it names. -/
def askDropped (u x : State) : State :=
  dropWithdraw (if u.ownAsk ≠ .none ∧ x.ownAsk = .none then seatAskEnded x else x)

theorem askDropped_of_idle {u x : State} (hidle : x.seat = .idle) :
    (askDropped u x).seat = .idle ∧
    match x.sq.floor with
    | some { content := .withdraw _ _, .. } => (askDropped u x).sq = { x.sq with floor := none }
    | _ => (askDropped u x).sq = x.sq := by
  have hsame : seatAskEnded x = x := by simp [seatAskEnded, hidle]
  rw [askDropped, hsame, ite_self]
  exact ⟨by simpa using hidle, dropWithdraw_sq hidle⟩

theorem askDropped_of_ended {u x : State} (hfree : x.flying .floor = false) (hask : u.ownAsk ≠ .none)
    (hend : x.ownAsk = .none) :
    match x.seat with
    | .asking => (askDropped u x).seat = .idle ∧ (askDropped u x).sq.floor = none
    | .waiting => (askDropped u x).seat = .idle
    | .taking k =>
      if k.kind = .line ∨ k.kind = .grant then (askDropped u x).seat = .idle ∧ (askDropped u x).sq.floor = none
      else (askDropped u x).seat = x.seat ∧ (askDropped u x).sq = x.sq
    | _ => (askDropped u x).seat = x.seat := by
  have hleft := seatAskEnded_seat hfree
  rw [askDropped, if_pos ⟨hask, hend⟩]
  cases hseat : x.seat with
  | asking =>
    rw [hseat] at hleft
    rw [dropWithdraw_of_empty (by rw [hleft.2])]
    exact ⟨hleft.1, by rw [hleft.2]⟩
  | waiting =>
    rw [hseat] at hleft
    simpa using hleft.1
  | taking k =>
    rw [hseat] at hleft
    dsimp only at hleft ⊢
    split at hleft
    next hk =>
      rw [if_pos hk, dropWithdraw_of_empty (by rw [hleft.2])]
      exact ⟨hleft.1, by rw [hleft.2]⟩
    next hk =>
      rw [if_neg hk, hleft, dropWithdraw_of_busy (by simp [hseat])]
      exact ⟨hseat, rfl⟩
  | _ =>
    rw [hseat] at hleft
    dsimp only at hleft ⊢
    rw [hleft]
    simp [hseat]

theorem seatArrival_drop (target : AddrBits) (argument : BitVec 13) (before x : State) :
    seatArrival { head := h, body := .direct target 3 argument } before x =
      if target.toNat = 0 ∨ target.toNat = x.addr then askDropped before x else x := by
  simp only [seatArrival, zero_iff_toNat]
  simp [askDropped]

/-- R88: the floor after a DROP_ASK. -/
theorem floorArrival_drop (target : AddrBits) (argument : BitVec 13) {u : State} (hother : h.sender.toNat ≠ u.addr) :
    floorArrival false false { head := h, body := .direct target 3 argument } u =
      if target.toNat = 0 ∨ target.toNat = u.addr then
        endOwnAsk .dropped (setWindow (dropWindow u.addr target.toNat u.window) u)
      else setWindow (dropWindow u.addr target.toNat u.window) u := by
  simp [floorArrival, viewArrival, lineArrival, orderArrivalFO, timerArrival, hother]

/-- Settles O31, by whether the DROP_ASK names the seat, and then by the seat state. -/
theorem dropAskArrivalEndsTheTargetsAsk : Obligations.DropAskArrivalEndsTheTargetsAsk := by
  unfold Obligations.DropAskArrivalEndsTheTargetsAsk
  intro h target argument s hs hchair hkey htarget
  let f : Frame := { head := h, body := .direct target 3 argument }
  refine gives_arrival (f := f) (g := f) hs rfl
    ((actingFrame_direct argument hs hchair hkey htarget (by decide) fun h1 => by cases h1).trans (by simp [f])) ?_
  rw [floorArrival_drop _ _ (by exact Hears.other (s := s) hs)]
  generalize hw : dropWindow (heard f s).addr target.toNat (heard f s).window = w
  have hwindow : w = if target.toNat = 0 then [] else if target.toNat = s.addr then s.window
      else s.window.filter fun e => decide (e.asker ≠ target.toNat) := by
    rw [← hw]
    rfl
  by_cases hnamed : target.toNat = 0 ∨ target.toNat = s.addr
  case neg =>
    rw [if_neg (by exact hnamed), seatArrival_drop, if_neg (by simpa [heard] using hnamed)]
    generalize ht : flush (signals (heard f s) (setWindow w (heard f s))) = t
    have heq : setWindow w (heard f s) = withFloorOf (heard f s) (setWindow w (heard f s)) := by
      rw [state_eq_iff]
      simp [withFloorOf]
    obtain ⟨htlanes, htwindow, htmark, htmutes, htask, htorder, heval, htposts, hframe⟩ :=
      quiet_arrival hs heq (by rw [setWindow_posts]; simp) ht.symm
    rw [Kept.setWindow_window] at htwindow
    refine ⟨htwindow.trans hwindow, htmark.trans (by simp [heard]), htlanes.trans (by simp [heard]), htorder, ?_,
      fun hn => absurd hn hnamed, fun _ _ => ⟨htask, heval, fun hwaits => ?_⟩⟩
    · rw [if_neg fun hboth => hnamed hboth.1, List.append_nil]
      exact htposts
    · have hmoves := hframe (.inl hwaits)
      have htst : t.st = s.st := by
        rw [← ht]
        simp [heard]
      rw [htlanes.trans (by simp [heard] : _ = s.lanes), htmark.trans (by simp [heard] : _ = s.mark),
        htmutes.trans (by simp [heard] : _ = s.mutes), htst] at hmoves
      exact hmoves
  case pos =>
    rw [if_pos (by exact hnamed), seatArrival_drop, if_pos (by simpa [heard] using hnamed)]
    have hask : (endOwnAsk .dropped (setWindow w (heard f s))).ownAsk = .none := by simp
    have hseat : (endOwnAsk .dropped (setWindow w (heard f s))).seat = s.seat := by simp [heard]
    have hsq : (endOwnAsk .dropped (setWindow w (heard f s))).sq = s.sq := by simp [heard]
    have hposts : (endOwnAsk .dropped (setWindow w (heard f s))).outbox.map Posted.event =
        linePosts s.window w ++ if s.ownAsk ≠ .none then [.askEnded .dropped] else [] := by
      rw [endOwnAsk_posts, setWindow_posts]
      simp [heard, hs.1.2]
    have hst : s.ownAsk ≠ .none →
        (endOwnAsk .dropped (setWindow w (heard f s))).st = { s.st with waitMeter := 0 } := fun hlive => by
      rw [endOwnAsk_st (by decide) (by simpa [heard] using hlive)]
      simp [heard]
    have hkept : (endOwnAsk .dropped (setWindow w (heard f s))).window = w ∧
        (endOwnAsk .dropped (setWindow w (heard f s))).mark = s.mark ∧
        (endOwnAsk .dropped (setWindow w (heard f s))).lanes = s.lanes ∧
        (endOwnAsk .dropped (setWindow w (heard f s))).mutes = s.mutes ∧
        (endOwnAsk .dropped (setWindow w (heard f s))).order = s.order ∧
        (endOwnAsk .dropped (setWindow w (heard f s))).vu = s.vu ∧
        (endOwnAsk .dropped (setWindow w (heard f s))).viewTicks = s.viewTicks ∧
        (endOwnAsk .dropped (setWindow w (heard f s))).pp = (heard f s).pp := by simp [heard]
    generalize endOwnAsk .dropped (setWindow w (heard f s)) = x at *
    obtain ⟨hevents, hreading⟩ := heard_events f s
    have hfree : x.flying .floor = false := by simpa [State.flying, hsq] using Hears.flying (f := f) hs .floor
    have hy : (askDropped (heard f s) x).ownAsk = .none ∧ (askDropped (heard f s) x).window = w ∧
        (askDropped (heard f s) x).mark = s.mark ∧ (askDropped (heard f s) x).lanes = s.lanes ∧
        (askDropped (heard f s) x).mutes = s.mutes ∧ (askDropped (heard f s) x).order = s.order ∧
        (askDropped (heard f s) x).vu = s.vu ∧ (askDropped (heard f s) x).st = x.st ∧
        (askDropped (heard f s) x).viewTicks = s.viewTicks ∧ (askDropped (heard f s) x).outbox = x.outbox ∧
        (askDropped (heard f s) x).pp = (heard f s).pp := by
      unfold askDropped
      split <;> simp [hkept, hask]
    generalize hdropped : askDropped (heard f s) x = y at *
    obtain ⟨hyask, hywindow, hymark, hylanes, hymutes, hyorder, hyvu, hyst, hyticks, hyout, hypp⟩ := hy
    rw [signals_of_no_ticket hyask]
    have hall := posts_of_perm (s := s) (u := y) (posted := s.floorEvents (flush y) ++
        (if (target.toNat = 0 ∨ target.toNat = s.addr) ∧ s.ownAsk ≠ .none then [.askEnded .dropped] else []))
      (by rw [hypp]; exact heard_events f s) (by simp [floorEvents_eq, hyout, hposts, hywindow, hylanes, hymutes, hyvu, hnamed])
    refine ⟨by simpa [hywindow] using hwindow, by simpa using hymark, by simpa using hylanes, by simpa using hyorder, hall,
      fun _ => ⟨by simpa using hyask, fun hidle => ?_, fun hlive => ⟨?_, fun hroom hno => ?_, ?_⟩⟩,
      fun hne hna => absurd hnamed (not_or.mpr ⟨hne, hna⟩)⟩
    · have hleft := askDropped_of_idle (u := heard f s) (hseat.trans hidle)
      rw [hdropped, hsq] at hleft
      simp only [flush_keeps]
      exact hleft
    · simpa [hyst] using hst hlive
    · refine mem_of_posts hall rfl (by simp [hnamed, hlive]) (by simp [overrun_notMem_floorEvents]) ?_ hno
        (by simpa using hyticks)
      have hline := linePosts_length s.window w
      rw [if_pos ⟨hnamed, hlive⟩, floorEvents_eq]
      simp only [flush_keeps, hylanes, hymutes, hywindow, hyvu, lanePosts_self, mutePosts_self, trimPosts_self,
        List.length_append, List.length_nil, List.length_singleton]
      omega
    · have hleft := askDropped_of_ended (u := heard f s) hfree hlive hask
      rw [hdropped, hseat] at hleft
      simp only [flush_keeps]
      cases hwas : s.seat with
      | taking k =>
        rw [hwas] at hleft
        dsimp only at hleft ⊢
        split at hleft
        next hk => rwa [if_pos hk]
        next hk => rw [if_neg hk, hleft.1]
      | _ =>
        rw [hwas] at hleft
        exact hleft

end Sys2Proof.Instant
end

section

/-! The arrivals of an ASK and a WITHDRAW (R76, R77, R85, R86, R92). -/

namespace Sys2Proof.Instant

open Sys2Proof Sys2Proof.Machine

-- One proof at a time: the text is compiled in bounded memory.
set_option Elab.async false

variable {h : Header} {s : State}

/-! ## An arrival at the Request Line alone -/

/-- R77, R92, R113: a frame of another station that raises the Mark and gives the window a new value. -/
theorem line_arrival {f : Frame} {t : State} (hs : s.Hears f.head) (k : Nat) (w : List Entry)
    (ht : t = flush (signals (heard f s) (setWindow w (raiseMark k (heard f s))))) :
    t.window = w ∧ t.mark = max s.mark k ∧ t.lanes = s.lanes ∧ t.ownAsk = s.ownAsk ∧ t.order = s.order ∧
      s.EvaluatesAt t ∧ s.Posts t (s.floorEvents t) ∧
      (s.seat ≠ .waiting ∨ ¬ s.Moved t →
        t = { s with li := s.li.afterSlot, window := t.window, mark := t.mark, freeCount := t.freeCount,
                     pp := { s.pp with events := t.pp.events, feed := t.pp.feed, overflow := t.pp.overflow,
                                       overflowSince := t.pp.overflowSince } }) := by
  have heq : setWindow w (raiseMark k (heard f s)) =
      withFloorOf (heard f s) (setWindow w (raiseMark k (heard f s))) := by
    rw [state_eq_iff]
    simp [withFloorOf]
  obtain ⟨htlanes, htwindow, htmark, htmutes, htask, htorder, heval, htposts, hframe⟩ :=
    quiet_arrival hs heq (by rw [setWindow_posts]; simp) ht
  have hlanes : t.lanes = s.lanes := htlanes.trans (by simp [heard])
  have hmutes : t.mutes = s.mutes := htmutes.trans (by simp [heard])
  have hst : t.st = s.st := by
    rw [ht]
    simp [heard]
  refine ⟨htwindow.trans (by simp), htmark.trans (by simp [heard]), hlanes, htask, htorder, heval, htposts,
    fun hquiet => ?_⟩
  have hmoves := hframe hquiet
  rw [hlanes, hmutes, hst] at hmoves
  exact hmoves

/-! ## The ASK -/

theorem actingFrame_ask (refresh : Bool) (hs : s.Hears h) (hchair : h.standing ≠ .chair) (hkey : 1 ≤ h.key.toNat) :
    actingFrame { head := h, body := .ask refresh } = some { head := h, body := .ask refresh } := by
  obtain ⟨haddress, hstanding⟩ := headPasses_of_hears (f := { head := h, body := .ask refresh }) hs
  have hzero : h.key ≠ 0 := fun h0 => by rw [h0] at hkey; exact absurd hkey (by decide)
  exact Kept.actingFrame_eq_some_iff.mpr
    ⟨by simp [headPasses, haddress, hstanding, hchair], by simpa [bodyPasses] using hzero, rfl⟩

theorem floorArrival_ask (refresh : Bool) {u : State} (hother : h.sender.toNat ≠ u.addr) :
    floorArrival false false { head := h, body := .ask refresh } u =
      setWindow (askWindow { asker := h.sender.toNat, ticket := h.key.toNat, standing := h.standing, silence := 0 }
        u.window) (raiseMark h.key.toNat u) := by
  simp [floorArrival, viewArrival, lineArrival, orderArrivalFO, timerArrival, hother]

/-- R85: an entry with the same ticket is refreshed in place. -/
theorem askWindow_of_same {e : Entry} {w : List Entry} (h : ∃ x ∈ w, x.asker = e.asker ∧ x.ticket = e.ticket) :
    askWindow e w = w.map fun x => if x.asker = e.asker then e else x :=
  if_pos (by simpa using h)

/-- R85: otherwise the new entry takes its place among the other askers' (R76). -/
theorem askWindow_of_new {e : Entry} {w : List Entry} (h : ∀ x ∈ w, ¬ (x.asker = e.asker ∧ x.ticket = e.ticket)) :
    askWindow e w = (insertEntry e (removeAsker e.asker w)).take 32 :=
  if_neg (by simpa using h)

/-- R76: of 33 pairs the last is not kept. -/
theorem insertEntry_kept (e : Entry) {w : List Entry} (hlen : w.length ≤ 32)
    (hw : w.Pairwise fun x y => pairBefore x.ticket x.asker y.ticket y.asker = true) :
    ∃ out : List Entry,
      ((insertEntry e (removeAsker e.asker w)).take 32 ++ out).Perm (e :: w.filter fun x => decide (x.asker ≠ e.asker)) ∧
      ((insertEntry e (removeAsker e.asker w)).take 32 ++ out).Pairwise
        (fun x y => pairBefore x.ticket x.asker y.ticket y.asker = true) ∧
      out.length ≤ 1 ∧
      (out ≠ [] → w.length = 32 ∧ ((insertEntry e (removeAsker e.asker w)).take 32).length = 32 ∧
        ∀ x ∈ w, x.asker ≠ e.asker) := by
  have hperm : (insertEntry e (removeAsker e.asker w)).Perm (e :: removeAsker e.asker w) := Kept.insertEntry_perm _ _
  have hcount : (insertEntry e (removeAsker e.asker w)).length = (removeAsker e.asker w).length + 1 := by
    rw [hperm.length_eq, List.length_cons]
  have hle : (removeAsker e.asker w).length ≤ w.length := List.length_filter_le _ _
  refine ⟨(insertEntry e (removeAsker e.asker w)).drop 32, ?_, ?_, ?_, fun hout => ?_⟩
  · rw [List.take_append_drop]
    exact hperm
  · rw [List.take_append_drop]
    exact Kept.insertEntry_ascending (hw.sublist List.filter_sublist) fun x hx => (Kept.mem_removeAsker.mp hx).2
  · rw [List.length_drop]
    omega
  · have hmore : 32 < (insertEntry e (removeAsker e.asker w)).length := by
      by_contra hfew
      exact hout (List.drop_eq_nil_of_le (by omega))
    have hall : (removeAsker e.asker w).length = w.length := by omega
    refine ⟨by omega, by rw [List.length_take]; omega, fun x hx => ?_⟩
    simpa using List.length_filter_eq_length_iff.mp hall x hx

/-- Settles O32: the window is the refreshed one, or the 32 lowest pairs with the new entry. -/
theorem askArrivalKeepsTheLowestPairs : Obligations.AskArrivalKeepsTheLowestPairs := by
  unfold Obligations.AskArrivalKeepsTheLowestPairs
  intro h refresh s hs hlaw hchair hkey
  obtain ⟨hlen, hascending, -⟩ := hlaw
  let f : Frame := { head := h, body := .ask refresh }
  refine gives_arrival (f := f) (g := f) hs rfl (actingFrame_ask refresh hs hchair hkey) ?_
  rw [floorArrival_ask _ (by exact Hears.other (s := s) hs)]
  generalize he : ({ asker := h.sender.toNat, ticket := h.key.toNat, standing := h.standing, silence := 0 } : Entry) = e
  rw [show ∀ x, seatArrival f (heard f s) x = x from fun _ => rfl]
  generalize ht : flush (signals _ _) = t
  obtain ⟨hwindow, hmark, hlanes, hask, horder, heval, hposts, hframe⟩ := line_arrival hs _ _ ht.symm
  change t.window = askWindow e s.window at hwindow
  have hbound : t.window.length ≤ 32 := by
    rw [hwindow]
    unfold askWindow
    split
    · rwa [List.length_map]
    · exact List.length_take_le _ _
  refine ⟨hbound, heval, hposts, hmark, hlanes, hask, horder, fun hsame => ?_, fun hnew => ?_,
    fun hwaits => hframe (.inl hwaits)⟩
  · rw [hwindow, askWindow_of_same hsame]
  · rw [hwindow, askWindow_of_new hnew]
    exact insertEntry_kept e hlen hascending

/-! ## The WITHDRAW -/

/-- R32: a WITHDRAW acts whatever its reason. -/
theorem actingFrame_withdraw (reason : BitVec 2) (hs : s.Hears h) (hchair : h.standing ≠ .chair)
    (hkey : 1 ≤ h.key.toNat) :
    ∃ r, actingFrame { head := h, body := .withdraw reason } = some { head := h, body := .withdraw r } := by
  obtain ⟨haddress, hstanding⟩ := headPasses_of_hears (f := { head := h, body := .withdraw reason }) hs
  have hzero : h.key ≠ 0 := fun h0 => by rw [h0] at hkey; exact absurd hkey (by decide)
  have hacts (r : BitVec 2) (hr : clampBody h.standing (.withdraw reason) = .withdraw r) :
      actingFrame { head := h, body := .withdraw reason } = some { head := h, body := .withdraw r } :=
    Kept.actingFrame_eq_some_iff.mpr
      ⟨by simp [headPasses, haddress, hstanding, hchair], by simpa [bodyPasses] using hzero, by rw [hr]⟩
  by_cases hr : reason.toNat ≤ 2
  · exact ⟨reason, hacts _ (by simp [clampBody, hr])⟩
  · exact ⟨0, hacts _ (by simp [clampBody, hr])⟩

theorem floorArrival_withdraw (reason : BitVec 2) {u : State} (hother : h.sender.toNat ≠ u.addr) :
    floorArrival false false { head := h, body := .withdraw reason } u =
      setWindow (withdrawWindow h.sender.toNat h.key.toNat u.window) (raiseMark h.key.toNat u) := by
  simp [floorArrival, viewArrival, lineArrival, orderArrivalFO, timerArrival, hother]

/-- R92: an entry that leaves changes the pairs. -/
theorem pairs_ne_of_left {p : Entry → Bool} {w : List Entry} (h : ∃ e ∈ w, p e = false) :
    (w.filter p).map (fun e => (e.ticket, e.asker)) ≠ w.map fun e => (e.ticket, e.asker) := by
  intro hsame
  obtain ⟨e, he, hp⟩ := h
  have hlen : (w.filter p).length = w.length := by simpa using congrArg List.length hsame
  simpa [hp] using List.length_filter_eq_length_iff.mp hlen e he

/-- Settles O33: an entry that leaves is a change of the line. -/
theorem withdrawArrivalRemovesTheMatchingEntry : Obligations.WithdrawArrivalRemovesTheMatchingEntry := by
  unfold Obligations.WithdrawArrivalRemovesTheMatchingEntry
  intro h reason s hs hchair hkey
  obtain ⟨r, hr⟩ := actingFrame_withdraw reason hs hchair hkey
  let f : Frame := { head := h, body := .withdraw reason }
  let g : Frame := { head := h, body := .withdraw r }
  refine gives_arrival (f := f) (g := g) hs rfl hr ?_
  rw [floorArrival_withdraw _ (by exact Hears.other (s := s) hs),
    show ∀ x, seatArrival g (heard f s) x = x from fun _ => rfl]
  generalize ht : flush (signals _ _) = t
  obtain ⟨hwindow, hmark, hlanes, hask, horder, heval, hposts, hframe⟩ := line_arrival hs _ _ ht.symm
  have hleft : t.window =
      s.window.filter fun e => !(decide (e.asker = h.sender.toNat) && decide (e.ticket = h.key.toNat)) := by
    rw [hwindow]
    simp [withdrawWindow, heard]
  refine ⟨hleft, hmark, hlanes, hask, horder, hposts, fun ticket hlive hwaits hentry => ?_, fun hquiet => ?_⟩
  · refine (heval ticket hlive hwaits).1 (.inr ?_)
    rw [hleft]
    obtain ⟨e, he, hasker, hticket⟩ := hentry
    exact pairs_ne_of_left ⟨e, he, by simp [hasker, hticket]⟩
  · refine hframe (hquiet.imp_right fun hno => ?_)
    have hsame : t.window = s.window := by
      rw [hleft]
      exact List.filter_eq_self.mpr fun e he => by simpa [imp_iff_not_or] using hno e he
    rintro (⟨i, hi⟩ | hpairs)
    · exact hi (by rw [hlanes])
    · exact hpairs (by rw [hsame])

end Sys2Proof.Instant
end

section

/-! The arrival of an ORDER (R26, R27, R89, R97 to R101, R121, R129). -/

namespace Sys2Proof.Instant

open Sys2Proof Sys2Proof.Machine

-- One proof at a time: the text is compiled in bounded memory.
set_option Elab.async false

variable {h : Header} {s : State}

/-! ## Adoption -/

/-- R98: an order that is adopted differs from the record. -/
theorem ne_of_adopts {r r' : OrderRec} (hadopts : adopts r r'.sequence r'.source = true) (horigin : r'.origin = .line) :
    r' ≠ r := by
  rintro rfl
  simp [adopts, orderDistance, horigin] at hadopts

/-- R89, R99, R100: whether an order with the record r empties the line. -/
def empties (clear : Bool) (r : OrderRec) (u : State) : Bool :=
  clear || (decide (r.mode ≠ u.order.mode) && r.mode.emptiesLine)

theorem empties_iff {clear : Bool} {r : OrderRec} {u : State} :
    empties clear r u = true ↔ clear = true ∨ (r.mode = .override ∨ r.mode = .voice) ∧ r.mode ≠ u.order.mode := by
  cases hmode : r.mode <;> simp [empties, Mode.emptiesLine, hmode]

theorem lineEmptied_posts (clear : Bool) (u : State) :
    (lineEmptied false clear u).outbox.map Posted.event = u.outbox.map Posted.event ++
      (linePosts u.window [] ++ if u.ownAsk ≠ .none then [.askEnded (if clear then .cleared else .mode)] else []) := by
  cases clear <;> simp [lineEmptied, arrivalEnd, endOwnAsk_posts, setWindow_posts]

theorem lineEmptied_st (clear : Bool) (u : State) :
    (lineEmptied false clear u).st = { u.st with waitMeter := (lineEmptied false clear u).st.waitMeter } := by
  by_cases hask : u.ownAsk = .none
  · cases clear <;> simp [lineEmptied, endOwnAsk, hask]
  · cases clear <;> simp [lineEmptied, arrivalEnd, endOwnAsk, hask]

/-- R89, R99 to R101: the floor after an adoption. -/
theorem adopt_fields {r : OrderRec} {clear : Bool} {u x : State} (hu : u.outbox = []) (hx : adopt false r clear u = x) :
    x.order = r ∧ x.window = (if empties clear r u then [] else u.window) ∧ x.mark = (if clear then 0 else u.mark) ∧
    x.ownAsk = (if empties clear r u then .none else u.ownAsk) ∧
    x.st = { u.st with waitMeter := x.st.waitMeter } ∧ (empties clear r u = false → x.st = u.st) ∧
    x.outbox.map Posted.event = .orderChanged r.source :: (linePosts u.window x.window ++
      if u.ownAsk ≠ .none ∧ x.ownAsk = .none then [.askEnded (if clear then .cleared else .mode)] else []) := by
  have heffect : x = if empties clear r u then lineEmptied false clear (post .fo (.orderChanged r.source) { u with order := r })
      else post .fo (.orderChanged r.source) { u with order := r } := hx.symm
  cases hempties : empties clear r u with
  | true =>
    rw [hempties, if_pos rfl] at heffect
    have hposts := lineEmptied_posts clear (post .fo (.orderChanged r.source) { u with order := r })
    have hst := lineEmptied_st clear (post .fo (.orderChanged r.source) { u with order := r })
    have hask : x.ownAsk = .none := by rw [heffect]; simp [lineEmptied]
    have hwindow : x.window = [] := by
      rw [heffect]
      cases clear <;> simp [lineEmptied]
    rw [← heffect] at hposts hst
    refine ⟨by rw [heffect]; simp, by simpa using hwindow, ?_, by simpa using hask, hst, by simp, ?_⟩
    · rw [heffect]
      cases clear <;> simp [lineEmptied]
    · rw [hposts, hwindow, hask]
      simp [hu]
  | false =>
    rw [hempties, if_neg (by simp)] at heffect
    have hclear : clear = false := by
      rw [← Bool.not_eq_true, empties_iff, not_or] at hempties
      simpa using hempties.1
    rw [heffect]
    by_cases hask : u.ownAsk = .none <;> simp [hclear, hu, hask]

/-! ## The seat at an adopted order -/

theorem seatAskEnded_gc (u : State) : (seatAskEnded u).gc = u.gc := by
  unfold seatAskEnded
  cases hseat : u.seat <;> simp [enterIdle, hseat, Seat.own?]
  split <;> simp

/-- R121, R129: the seat after an adopted order: it leaves an emptied line, and a transition out of VOICE clears the cough
flag. -/
theorem seatOrder_of_adopted {clear : Bool} {before x : State} (horder : x.order ≠ before.order)
    (hask : empties clear x.order before = false → x.ownAsk = before.ownAsk) :
    (empties clear x.order before = true → (seatOrder clear before x).seat = (askDropped before x).seat ∧
      (seatOrder clear before x).sq = (askDropped before x).sq) ∧
    (empties clear x.order before = false → (seatOrder clear before x).seat = x.seat ∧
      (seatOrder clear before x).sq = x.sq) ∧
    (seatOrder clear before x).gc = x.gc ∧
    (seatOrder clear before x).flags =
      { x.flags with cough := x.flags.cough && !decide (before.order.mode = .voice ∧ x.order.mode ≠ .voice) } := by
  let left : State := if empties clear x.order before then askDropped before x else x
  have heffect : seatOrder clear before x =
      if x.order.mode ≠ before.order.mode ∧ before.order.mode = .voice then
        { left with flags := { left.flags with cough := false } }
      else left := by
    have hleft : left = if empties clear x.order before then
        dropWithdraw (if before.ownAsk ≠ .none ∧ x.ownAsk = .none then seatAskEnded x else x)
        else (if before.ownAsk ≠ .none ∧ x.ownAsk = .none then seatAskEnded x else x) := by
      cases hempties : empties clear x.order before with
      | true => simp only [left, hempties, if_true]; rfl
      | false =>
        simp only [left, hempties, Bool.false_eq_true, if_false, hask hempties]
        rw [if_neg fun hboth => hboth.1 hboth.2]
    rw [hleft]
    unfold seatOrder
    rw [if_neg horder]
    simp only [decide_eq_true_eq, empties]
    rfl
  have hgc : left.gc = x.gc := by
    simp only [left, askDropped]
    split
    · split
      · simp [seatAskEnded_gc]
      · simp
    · rfl
  have hflags : left.flags = x.flags := by
    simp only [left, askDropped]
    split
    · split <;> simp
    · rfl
  have hseat : (empties clear x.order before = true → left.seat = (askDropped before x).seat ∧
      left.sq = (askDropped before x).sq) ∧
      (empties clear x.order before = false → left.seat = x.seat ∧ left.sq = x.sq) := by
    refine ⟨fun hyes => ?_, fun hno => ?_⟩
    · simp [left, hyes]
    · simp [left, hno]
  rw [heffect]
  split
  next hmoved =>
    have hleft : x.order.mode ≠ .voice := fun hv => hmoved.1 (hv.trans hmoved.2.symm)
    exact ⟨hseat.1, hseat.2, hgc, by simp [hflags, hmoved.2, hleft]⟩
  next hmoved =>
    refine ⟨hseat.1, hseat.2, hgc, ?_⟩
    have hstays : ¬ (before.order.mode = .voice ∧ x.order.mode ≠ .voice) := fun hboth =>
      hmoved ⟨fun heq => hboth.2 (heq.trans hboth.1), hboth.1⟩
    simp [hflags, hstays]

/-! ## The arrival -/

/-- R26, R27: a chair's ORDER with a valid source acts with its fields clamped. -/
theorem actingFrame_order {source : AddrBits} (sequence : BitVec 8) (mode : BitVec 2) (l : BitVec 4) (a : BitVec 8)
    (g c : BitVec 6) (clear : Bool) (hs : s.Hears h) (hchair : h.standing = .chair) (hkey : h.key.toNat = 0)
    (hlo : 1 ≤ source.toNat) (hhi : source.toNat ≤ 1000) :
    actingFrame { head := h, body := .order source sequence mode l a g c clear } = some
      { head := h, body := .order source sequence mode (clampLaneLimit l) a (clampGrace g) (clampCapacity c) clear } := by
  obtain ⟨haddress, -⟩ := headPasses_of_hears (f := { head := h, body := .order source sequence mode l a g c clear }) hs
  have hzero : h.key = 0 := BitVec.eq_of_toNat_eq hkey
  exact Kept.actingFrame_eq_some_iff.mpr
    ⟨by simp [headPasses, haddress, hchair], by simp [bodyPasses, hzero, validAddress, hlo, hhi], rfl⟩

/-- R27, R99: the record that an ORDER carries, clamped. -/
def orderCarried (source : AddrBits) (sequence : BitVec 8) (mode : BitVec 2) (l : BitVec 4) (a : BitVec 8)
    (g c : BitVec 6) : OrderRec :=
  { mode := modeOfCode mode.toNat, laneLimit := max 1 (min 8 l.toNat), allowance := a.toNat, grace := min 60 g.toNat,
    capacity := max 1 (min 32 c.toNat), sequence := sequence, source := source.toNat, origin := .line }

/-- R97, R98: the floor after an ORDER. -/
theorem floorArrival_order (source : AddrBits) (sequence : BitVec 8) (mode : BitVec 2) (l : BitVec 4) (a : BitVec 8)
    (g c : BitVec 6) (clear : Bool) (u : State) :
    floorArrival false false
        { head := h, body := .order source sequence mode (clampLaneLimit l) a (clampGrace g) (clampCapacity c) clear } u =
      if adopts u.order sequence source.toNat then adopt false (orderCarried source sequence mode l a g c) clear u
      else u := by
  simp [floorArrival, viewArrival, lineArrival, orderArrivalFO, timerArrival, orderCarried,
    Kept.clampLaneLimit_toNat, Kept.clampGrace_toNat, Kept.clampCapacity_toNat]

theorem seatArrival_order (source : AddrBits) (sequence : BitVec 8) (mode : BitVec 2) (l : BitVec 4) (a : BitVec 8)
    (g c : BitVec 6) (clear : Bool) (before x : State) :
    seatArrival { head := h, body := .order source sequence mode l a g c clear } before x = seatOrder clear before x := rfl

theorem posts_of_posts {t : State} {posted posted' : List Event} (h : s.Posts t posted) (hperm : posted.Perm posted') :
    s.Posts t posted' := by
  obtain ⟨order, horder, hevents⟩ := h
  exact ⟨order, horder.trans hperm, hevents⟩

/-- Settles O35, by whether the order is adopted, and then by whether it empties the line. -/
theorem orderArrivalIsAdoptedOrIgnored : Obligations.OrderArrivalIsAdoptedOrIgnored := by
  unfold Obligations.OrderArrivalIsAdoptedOrIgnored
  intro h source sequence mode l a g c clear s hs hchair hkey hlo hhi
  let f : Frame := { head := h, body := .order source sequence mode l a g c clear }
  refine gives_arrival (f := f) hs rfl (actingFrame_order sequence mode l a g c clear hs hchair hkey hlo hhi) ?_
  rw [floorArrival_order, seatArrival_order]
  by_cases hadopts : adopts s.order sequence source.toNat = true
  case neg =>
    rw [if_neg hadopts, if_neg (by exact hadopts)]
    rw [show seatOrder clear (heard f s) (heard f s) = heard f s from if_pos rfl, signals_of_same rfl rfl rfl]
    exact flush_heard f hs.1.2
  case pos =>
    rw [if_pos hadopts, if_pos (by exact hadopts)]
    have hdiffers : orderCarried source sequence mode l a g c ≠ s.order := ne_of_adopts hadopts rfl
    generalize hr : orderCarried source sequence mode l a g c = r at *
    obtain ⟨hxorder, hxwindow, hxmark, hxask, hxst, hxstays, hxposts⟩ :=
      adopt_fields (r := r) (clear := clear) (u := heard f s) hs.1.2 rfl
    have hxkept : (adopt false r clear (heard f s)).lanes = s.lanes ∧ (adopt false r clear (heard f s)).mutes = s.mutes ∧
        (adopt false r clear (heard f s)).gc = s.gc ∧ (adopt false r clear (heard f s)).sq = s.sq ∧
        (adopt false r clear (heard f s)).seat = s.seat ∧ (adopt false r clear (heard f s)).flags = s.flags ∧
        (adopt false r clear (heard f s)).vu = s.vu ∧ (adopt false r clear (heard f s)).pp = (heard f s).pp := by
      simp [heard]
    generalize adopt false r clear (heard f s) = x at *
    obtain ⟨hxlanes, hxmutes, hxgc, hxsq, hxseat, hxflags, hxvu, hxpp⟩ := hxkept
    have hsame : empties clear r (heard f s) = empties clear r s := rfl
    rw [hsame] at hxwindow hxask hxstays
    have hy := seatOrder_of_adopted (clear := clear) (before := heard f s) (x := x) (by rw [hxorder]; exact hdiffers)
      (by rw [hxorder, hsame, hxask]; intro hno; rw [hno]; rfl)
    rw [hxorder, hsame, hxseat, hxsq, hxgc, hxflags] at hy
    obtain ⟨hyleft, hystays, hygc, hyflags⟩ := hy
    generalize hdone : seatOrder clear (heard f s) x = y at *
    have hykept : y.order = r ∧ y.window = x.window ∧ y.mark = x.mark ∧ y.ownAsk = x.ownAsk ∧ y.st = x.st ∧
        y.lanes = s.lanes ∧ y.mutes = s.mutes ∧ y.vu = s.vu ∧ y.pp = (heard f s).pp ∧ y.outbox = x.outbox := by
      rw [← hdone]
      simp [hxorder, hxlanes, hxmutes, hxvu, hxpp]
    obtain ⟨hyorder, hywindow, hymark, hyask, hyst, hylanes, hymutes, hyvu, hypp, hyout⟩ := hykept
    have hall := posts_signals (s := s) (before := heard f s) (x := y)
      (extra := .orderChanged r.source :: if s.ownAsk ≠ .none ∧ x.ownAsk = .none then
        [.askEnded (if clear then .cleared else .mode)] else []) hyvu (by rw [hypp]; exact heard_events f s) (by
        rw [hyout, hxposts, hylanes, hymutes, hywindow]
        simp only [lanePosts_self, mutePosts_self, List.nil_append]
        exact List.perm_middle.symm)
    generalize ht : flush (signals (heard f s) y) = t at *
    have htkept : t.order = r ∧ t.window = x.window ∧ t.mark = x.mark ∧ t.ownAsk = x.ownAsk ∧ t.st = x.st ∧
        t.lanes = s.lanes ∧ t.mutes = s.mutes ∧ t.gc = s.gc ∧ t.flags = y.flags := by
      rw [← ht]
      simp [hyorder, hywindow, hymark, hyask, hyst, hylanes, hymutes, hygc]
    obtain ⟨htorder, htwindow, htmark, htask, htst, htlanes, htmutes, htgc, htflags⟩ := htkept
    have hquiet (hstill : y.seat ≠ .waiting ∨ x.ownAsk = .none) : t.seat = y.seat ∧ t.sq = y.sq := by
      have hsig : signals (heard f s) y = y := by
        obtain hwaits | hnone := hstill
        · exact signals_of_not_waiting hwaits
        · exact signals_of_no_ticket (hyask.trans hnone)
      rw [← ht, hsig]
      simp
    have hfree : x.flying .floor = false := by simpa [State.flying, hxsq] using Hears.flying (f := f) hs .floor
    have hsource : r.source = source.toNat := by rw [← hr]; rfl
    refine ⟨htorder.trans hr.symm, htlanes, htmutes, htgc, by rw [htst]; exact hxst, fun hclear => ?_, fun hclear => ?_,
      fun hmode hmoved => ?_, fun hclear hmode => ?_, ?_, ?_, ⟨fun hempties hask => ?_, fun hidle => ?_,
      fun hkeeps hwaits hidle => ?_⟩, fun ticket hlive hwaits hstays _ => ?_⟩
    · have hempties := empties_iff (clear := clear) (r := r) (u := s) |>.mpr (.inl hclear)
      rw [hempties] at hxwindow hxask
      rw [htwindow, htmark, htask, hxwindow, hxmark, hxask, hclear]
      exact ⟨rfl, rfl, rfl⟩
    · rw [htmark, hxmark, hclear]
      rfl
    · rw [htorder] at hmode hmoved
      have hempties := empties_iff (clear := clear) (r := r) (u := s) |>.mpr (.inr ⟨hmode, hmoved⟩)
      rw [hempties] at hxwindow hxask
      rw [htwindow, htask, hxwindow, hxask]
      exact ⟨rfl, rfl⟩
    · rw [htorder] at hmode
      have hkeeps : empties clear r s = false := by
        rw [← Bool.not_eq_true, empties_iff, hclear]
        rintro (hno | ⟨hm, hmoved⟩)
        · cases hno
        · obtain hsame | hopen | hmoderated := hmode
          · exact hmoved hsame
          · rw [hopen] at hm; simp at hm
          · rw [hmoderated] at hm; simp at hm
      rw [hkeeps] at hxwindow hxask
      rw [htwindow, htask, htst, hxwindow, hxask, hxstays hkeeps]
      exact ⟨rfl, rfl, rfl⟩
    · rw [← hsource, htask]
      exact posts_of_posts hall List.perm_middle
    · rw [htflags, hyflags, htorder]
      rfl
    · rw [htorder] at hempties
      have hyes := empties_iff.mpr hempties
      have hnone : x.ownAsk = .none := by rw [hxask, hyes]; rfl
      have hleft := askDropped_of_ended (u := heard f s) hfree hask hnone
      rw [hxseat, hxsq, ← (hyleft hyes).1, ← (hyleft hyes).2, ← (hquiet (.inr hnone)).1, ← (hquiet (.inr hnone)).2] at hleft
      cases hwas : s.seat with
      | asking => rwa [hwas] at hleft
      | waiting => rwa [hwas] at hleft
      | taking k => rwa [hwas] at hleft
      | _ => trivial
    · rw [htorder]
      have hleft := askDropped_of_idle (u := heard f s) (hxseat.trans hidle)
      rw [hxsq] at hleft
      have hyidle : y.seat = .idle := by
        cases hyes : empties clear r s with
        | true => rw [(hyleft hyes).1, hleft.1]
        | false => rw [(hystays hyes).1, hidle]
      have htquiet := hquiet (.inl (by rw [hyidle]; simp))
      refine ⟨by rw [htquiet.1, hyidle], ?_⟩
      rw [htquiet.2]
      have hkept : ¬ (clear = true ∨ (r.mode = .override ∨ r.mode = .voice) ∧ r.mode ≠ s.order.mode) → y.sq = s.sq :=
        fun hno => (hystays (by rw [← Bool.not_eq_true, empties_iff]; exact hno)).2
      split
      next a b n hfloor =>
        rw [hfloor] at hleft
        exact ⟨fun hempties => by rw [(hyleft (empties_iff.mpr hempties)).2, hleft.2], hkept⟩
      next hother =>
        by_cases hempties : clear = true ∨ (r.mode = .override ∨ r.mode = .voice) ∧ r.mode ≠ s.order.mode
        · rw [(hyleft (empties_iff.mpr hempties)).2]
          have hrest := hleft.2
          split at hrest
          next a b n hfloor => exact absurd hfloor (hother a b n)
          next => exact hrest
        · exact hkept hempties
    · have hysame : y.seat = s.seat ∧ y.sq = s.sq := by
        cases hyes : empties clear r s with
        | false => exact hystays hyes
        | true =>
          have hnone : s.ownAsk = .none := hkeeps.resolve_left fun hno => hno (by
            rw [htorder]
            exact empties_iff.mp hyes)
          have hsame : askDropped (heard f s) x = x := by
            rw [askDropped, if_neg fun hboth => hboth.1 hnone, dropWithdraw_of_busy (by rwa [hxseat])]
          have hleft := hyleft hyes
          rw [hsame] at hleft
          exact ⟨hleft.1.trans hxseat, hleft.2.trans hxsq⟩
      have htquiet := hquiet (.inl (by rwa [hysame.1]))
      exact ⟨htquiet.1.trans hysame.1, htquiet.2.trans hysame.2⟩
    · have hno : empties clear r s = false := by
        rw [← Bool.not_eq_true]
        intro hyes
        rw [htask, hxask, hyes] at hstays
        cases hstays
      have hyask' : y.ownAsk = .live ticket := by
        rw [hyask, ← htask]
        exact hstays
      have hyflying : y.flying .floor = false := by
        simpa [State.flying, (hystays hno).2] using Hears.flying (f := f) hs .floor
      rw [← ht, signals_of_moved (.inr (.inr (by rw [hyorder]; exact hdiffers))), ← (hystays hno).2]
      refine evaluated_flush (evaluate_evaluated ((hystays hno).1.trans hwaits) hyask' ?_ hyflying)
      rw [hyflags]
      exact Hears.running hs

end Sys2Proof.Instant
end

section

/-! Every accepted frame at the feed (R35, R187), and an accepted frame with the own address (R130). -/

namespace Sys2Proof.Instant

open Sys2Proof Sys2Proof.Machine

-- One proof at a time: the text is compiled in bounded memory.
set_option Elab.async false

variable {s : State}

/-! ## The feed -/

theorem exec_of_arrival {c : Instr} {f : Frame} (h : arrivalOf c = some f) (s : State) :
    exec c s = event (arrival f) s := by
  cases c <;> cases h <;> rfl

theorem checkRestart_feed (u : State) :
    (checkRestart u).pp.feed = u.pp.feed ∧ (checkRestart u).pp.overflow = u.pp.overflow ∧
      (checkRestart u).pp.overflowSince = u.pp.overflowSince ∧ (checkRestart u).pp.feedOn = u.pp.feedOn := by
  unfold checkRestart
  split <;> exact ⟨rfl, rfl, rfl, rfl⟩

/-- R35, R187: an instant whose blocks leave the panel port as the feed has been offered the frame. -/
theorem fed_of_instant {own : Bool} {f : Frame} {z x : State} (hz : z.pp = s.pp)
    (hx : x.pp = (offerFeed own f z).pp) : s.Fed (flush (checkRestart x)) own f := by
  have hoffer : (offerFeed own f z).pp = (offerFeed own f s).pp := by
    unfold offerFeed
    rw [hz]
    split
    · exact hz
    · split <;> simp
  obtain ⟨hfeed, hoverflow, hsince, hon⟩ := checkRestart_feed x
  have hpp := Kept.flush_pp (checkRestart x)
  refine fed_of_offerFeed (s := s) ?_ ?_ ?_ ?_
  · rw [hpp, ← hoffer, ← hx]; exact hfeed
  · rw [hpp, ← hoffer, ← hx]; exact hoverflow
  · rw [hpp, ← hoffer, ← hx]; exact hsince
  · rw [hpp, show (checkRestart x).pp.feedOn = s.pp.feedOn by rw [hon, hx, hoffer, offerFeed_pp]]

theorem foreignArrival_pp (f : Frame) (u : State) : (foreignArrival f u).pp = (offerFeed false f u).pp := by
  unfold foreignArrival
  dsimp only
  split
  · split <;> simp
  · split <;> simp

/-- R120, R123: what follows a completed frame at the seat leaves the panel port. -/
theorem ownerCompleted_pp (f : Frame) (u : State) : (ownerCompleted f u).pp = u.pp := by
  have live (o : OwnLane) (v : State) : (enterLive o v).pp = v.pp := by
    simp only [enterLive, releaseAtEntry, syncMuting]
    split <;> split <;> simp [gateSpeech]
  have passes (o : OwnLane) (c : Cause) (v : State) : (passThroughLive o c v).pp = v.pp := by simp [passThroughLive]
  have asks (k : Nat) (v : State) : (askCompleted k v).pp = v.pp := by
    unfold askCompleted
    split
    · split <;> simp [askLive]
    · rfl
  unfold ownerCompleted
  split
  · unfold takeCompleted
    split
    · split
      · exact passes _ _ _
      · exact live _ _
    · rfl
  · split
    · rfl
    · exact asks _ _
  · unfold yieldCompleted
    split <;> simp
  · rfl

theorem ownArrival_pp (f : Frame) (u : State) : (ownArrival f u).pp = (offerFeed true f u).pp := by
  unfold ownArrival
  dsimp only
  split
  · exact ownerCompleted_pp _ _
  · simp [ownerCompleted_pp]

theorem actingFrame_of_discarded {f : Frame} (h : screen f = .discarded) : actingFrame f = none := by
  simp [actingFrame, h]

/-- R28: a DIRECT of an action above 3 is discarded. -/
theorem screen_of_action {h : Header} {target : AddrBits} {action : BitVec 3} (argument : BitVec 13)
    (haction : 4 ≤ action.toNat) : screen { head := h, body := .direct target action argument } = .discarded := by
  have hfails : bodyPasses { head := h, body := .direct target action argument } = false := by
    simp only [bodyPasses, show decide (action.toNat ≤ 3) = false by simp; omega, Bool.and_false, Bool.false_and]
  simp [screen, hfails]

/-- Settles O36: nothing that follows the offer to the feed changes the feed. -/
theorem acceptedFramesReachTheFeedWhateverTheirVerdict : Obligations.AcceptedFramesReachTheFeedWhateverTheirVerdict := by
  unfold Obligations.AcceptedFramesReachTheFeedWhateverTheirVerdict
  intro c slot f s hs
  refine ⟨fun hc hreceives => gives_of_event hs (exec_of_arrival hc s) ⟨?_, fun hrunning hother hdiscard => ?_⟩,
    fun hflight hfault => gives_of_event (f := attemptCompleted) hs rfl ?_⟩
  · rw [arrival, if_pos hreceives]
    exact fed_of_instant (z := slotRecessive (lineIdle s)) rfl (foreignArrival_pp _ _)
  · have hacting : actingFrame f = none := by
      obtain hscreen | ⟨h, target, action, argument, rfl, haction⟩ := hdiscard
      · exact actingFrame_of_discarded hscreen
      · obtain rfl : _ = f := by simpa [arrivalOf] using hc
        exact actingFrame_of_discarded (screen_of_action argument haction)
    rw [arrival_of_discard hreceives hrunning hother hacting]
    exact flush_heard f hs.2
  · unfold attemptCompleted
    rw [hflight]
    simp only [hfault, Bool.false_eq_true, if_false]
    refine fed_of_instant ?_ (ownArrival_pp f _)
    cases slot <;> rfl

/-! ## What the floor posts of a frame with the own address -/

/-- Events of which none is OVERRUN and that are few. -/
def Few (n : Nat) (l : List Event) : Prop := l.length ≤ n ∧ .overrun ∉ l

theorem few_floor (v w : Vector Lane 8) (l m : List MuteSource) (x y : List Entry) :
    Few 10 (lanePosts v w ++ mutePosts l m ++ linePosts x y) := by
  have hlanes := lanePosts_length v w
  have hmutes := mutePosts_length l m
  have hline := linePosts_length x y
  refine ⟨by simp only [List.length_append]; omega, ?_⟩
  simp only [List.mem_append, lanePosts, mutePosts, linePosts]
  split_ifs <;> simp

theorem few_lineEmptied (clash clear : Bool) {u : State} (hu : Few 1 (u.outbox.map Posted.event)) :
    Few 10 ((lineEmptied clash clear u).outbox.map Posted.event) := by
  have hline := linePosts_length u.window []
  have hno : Event.overrun ∉ linePosts u.window [] := by
    unfold linePosts
    split <;> simp
  have hposts : ∃ r, (lineEmptied clash clear u).outbox.map Posted.event = u.outbox.map Posted.event ++
      linePosts u.window [] ++ if u.ownAsk ≠ .none then [.askEnded r] else [] := by
    cases clear <;> exact ⟨_, by simp only [lineEmptied, endOwnAsk_posts]; simp [setWindow_posts]; rfl⟩
  obtain ⟨r, hr⟩ := hposts
  obtain ⟨hlen, hover⟩ := hu
  rw [List.length_map] at hlen
  rw [hr]
  refine ⟨?_, by by_cases hask : u.ownAsk = .none <;> simp [hask, hno, hover]⟩
  simp only [List.length_append, List.length_map]
  split <;> simp <;> omega

/-- R89: an adopted order posts itself, the change of the line and the end of the ask. -/
theorem few_adopt (clash clear : Bool) (r : OrderRec) {u : State} (hu : u.outbox = []) :
    Few 10 ((adopt clash r clear u).outbox.map Posted.event) := by
  unfold adopt
  dsimp only
  split
  · exact few_lineEmptied _ _ (by simp [hu, Few])
  · simp [hu, Few]

/-- What the floor posts of a frame with the own address: a DIRECT of this station's is no DROP_ASK (R84). -/
theorem few_floorArrival (clash : Bool) {f : Frame} {u : State} (hu : u.outbox = [])
    (hself : f.head.sender.toNat = u.addr) : Few 10 ((floorArrival false clash f u).outbox.map Posted.event) := by
  obtain ⟨head, body⟩ := f
  by_cases hchairs : isChairs body = false
  · rw [floorArrival_posts (by exact hchairs), hu]
    simpa using few_floor _ _ _ _ _ _
  · cases body with
    | order source sequence mode l a g c clear =>
      rw [show floorArrival false clash { head := head, body := .order source sequence mode l a g c clear } u =
        orderArrivalFO clash { head := head, body := .order source sequence mode l a g c clear } u from rfl]
      unfold orderArrivalFO
      dsimp only
      split
      · exact few_adopt _ _ _ hu
      · simp [hu, Few]
    | direct target action argument =>
      have hview : (floorArrival false clash { head := head, body := .direct target action argument } u).outbox =
          (viewArrival { head := head, body := .direct target action argument } u).outbox := by
        simp only [floorArrival, orderArrivalFO, lineArrival, viewArrival_keeps]
        simp [hself]
      rw [hview, viewArrival_posts, hu]
      simpa using few_floor _ _ _ _ u.window u.window
    | _ => exact absurd rfl hchairs

/-! ## The clash -/

theorem addressClash_posts (u : State) :
    (addressClash u).outbox.map Posted.event =
      u.outbox.map Posted.event ++ (if u.ownAsk ≠ .none then [.askEnded .clash] else []) ++ [.addressClash u.addr] := by
  simp only [addressClash, post_outbox, List.map_append, endOwnAsk_posts, emptyQueue]
  split <;> simp

/-- R50, R130, R178: the seat after an address clash. -/
theorem addressClash_seat (u : State) :
    (addressClash u).seat = .listen ∧ (addressClash u).flags = { SeatFlags.reset with clash := true } ∧
      (addressClash u).sq = { SendQ.reset with inFlight := u.sq.inFlight } ∧ (addressClash u).ownAsk = .none ∧
      (addressClash u).flash = .stopped ∧ (u.seat.speaking?.isSome = true → (addressClash u).st.speaking = false) := by
  have hlisten (v : State) : (enterListen v).seat = .listen := by
    simp only [enterListen]
    split <;> simp
  have hspeaking (r : AskEnd) (v : State) : (endOwnAsk r v).st.speaking = v.st.speaking := by
    unfold endOwnAsk
    split <;> rfl
  refine ⟨?_, rfl, ?_, ?_, rfl, fun hspeaks => ?_⟩
  · simp [addressClash, emptyQueue, hlisten]
  · simp only [addressClash]
    split <;> simp [emptyQueue]
  · simp [addressClash]
  · simp [addressClash, hspeaks, hspeaking, emptyQueue]

/-- R24, R130: an accepted frame with the own address, at a seat that is not in LISTEN. -/
theorem arrival_of_clash {f : Frame} (hs : s.outbox = []) (hreceives : s.receives = true)
    (hself : f.head.sender.toNat = s.addr) (hseat : s.seat ≠ .listen) :
    ∃ x, arrival f s = addressClash x ∧ x.sq = s.sq ∧ x.addr = s.addr ∧ x.seat = s.seat ∧ x.vu = s.vu ∧
      x.key1 = s.key1 ∧ x.key2 = s.key2 ∧ x.key3 = s.key3 ∧ x.viewTicks = s.viewTicks ∧ x.resetLow = s.resetLow ∧
      x.pp.events = s.pp.events ∧ x.pp.reading = s.pp.reading ∧ Few 10 (x.outbox.map Posted.event) := by
  have hclash : (slotRecessive (lineIdle s)).clashes false f = true := by simp [State.clashes, hself, hseat]
  obtain ⟨hevents, hreading⟩ := heard_events f s
  have hrunning (x : State) : checkRestart (addressClash x) = addressClash x :=
    checkRestart_of_running (by rw [(addressClash_seat x).2.1]; rfl)
  cases hg : actingFrame f with
  | none =>
    refine ⟨heard f s, ?_, rfl, rfl, rfl, rfl, rfl, rfl, rfl, rfl, rfl, hevents, hreading, ?_⟩
    · rw [arrival, if_pos hreceives, foreignArrival, hclash, hg, offerFeed_slot]
      exact hrunning _
    · rw [show (heard f s).outbox = [] from hs]
      simp [Few]
  | some g =>
    have hgself : g.head.sender.toNat = s.addr := by
      obtain ⟨-, -, rfl⟩ := Kept.actingFrame_eq_some_iff.mp hg
      exact hself
    refine ⟨floorArrival false true g (heard f s), ?_, by simp [heard], by simp [heard], by simp [heard],
      by simp [heard], by simp [heard], by simp [heard], by simp [heard], by simp [heard], by simp [heard],
      by simpa using hevents, by simpa using hreading, few_floorArrival true hs hgself⟩
    rw [arrival, if_pos hreceives, foreignArrival, hclash, hg, offerFeed_slot]
    dsimp only
    rw [if_pos rfl]
    exact hrunning _

/-- Settles O37: every block empties what it held for the seat, and the seat is then in LISTEN. -/
theorem addressClashSilencesTheStation : Obligations.AddressClashSilencesTheStation := by
  unfold Obligations.AddressClashSilencesTheStation
  intro c f s hc hs hreceives hself hlisten
  obtain ⟨x, hx, hsq, haddr, hseat, hvu, hk1, hk2, hk3, hticks, hlow, hevents, hreading, hfew, hno⟩ :=
    arrival_of_clash hs.2 hreceives hself hlisten
  refine gives_of_event hs (exec_of_arrival hc s) ?_
  rw [hx]
  obtain ⟨hyseat, hyflags, hysq, hyask, hyflash, hyspeech⟩ := addressClash_seat x
  have hflight : s.sq.inFlight = none := by simp_all [State.receives]
  have hposts := posts_of_perm (s := s) (u := addressClash x) ⟨by simpa using hevents, by simpa using hreading⟩ (.refl _)
  have hhigh : x.resetLow = false := hlow.trans hs.1
  refine ⟨by simpa using hyseat, by simp [hyflags, SeatFlags.reset], by simp [hysq, hsq, hflight, SendQ.reset],
    by simpa using hyask, fun hspeaks => by simpa using hyspeech (by rwa [hseat]), by simp [State.flTx, hyseat],
    gateOpen_of_silent (by simp [hyseat, Seat.speaking?]), by simp [State.ring, hyflags, hhigh],
    by simp [State.req, hyflags, hhigh], by simpa using hyflash, by simpa using hvu, by simp [hk1, hk2, hk3],
    by simpa using hticks, fun hroom hover => ?_⟩
  refine mem_of_posts hposts rfl ?_ ?_ ?_ hover (by simpa using hticks)
  · rw [addressClash_posts, haddr]
    simp
  · rw [addressClash_posts]
    by_cases hask : x.ownAsk = .none <;> simp [hask, hno]
  · rw [addressClash_posts]
    simp only [List.length_append, List.length_singleton]
    split <;> simp only [List.length_nil, List.length_singleton] <;> omega

end Sys2Proof.Instant
end

section

/-! The lapses of a lane, a mute source and a line entry, and the repeat of an order (R48, R63, R68, R90, R102 to R104). -/

namespace Sys2Proof.Instant

open Sys2Proof Sys2Proof.Machine

-- One proof at a time: the text is compiled in bounded memory.
set_option Elab.async false

variable {s : State}

/-! ## Lapses -/

theorem laneNumbers_filter_eq (n : Fin 8) : (laneNumbers.filter fun i => decide (i = n)) = [n] := by
  revert n
  decide

/-- R62: when one lane changes its state, one event reports it. -/
theorem laneEvents_of_one {v w : Vector Lane 8} {n : Fin 8} (hn : v[n].reportable w[n] = true)
    (hothers : ∀ i, i ≠ n → w[i] = v[i]) : laneEvents v w = [{ block := .fv, event := .laneChanged n }] := by
  have hfilter : (laneNumbers.filter fun i => v[i].reportable w[i]) = laneNumbers.filter fun i => decide (i = n) := by
    refine List.filter_congr fun i _ => ?_
    by_cases hi : i = n
    · rw [hi, hn]
      simp
    · rw [hothers i hi, reportable_eq_shows]
      simp [hi]
  rw [laneEvents, hfilter, laneNumbers_filter_eq]
  rfl

/-- A step of a view tick that changes the view, or the window, and lets a WAITING seat evaluate. -/
theorem posts_evaluate {x : State} {posted : List Event}
    (hpp : x.pp.events = s.pp.events ∧ x.pp.reading = s.pp.reading) (hvu : x.vu = s.vu)
    (h : x.outbox.map Posted.event = posted)
    (hfloor : posted = lanePosts s.lanes x.lanes ++ mutePosts s.mutes x.mutes ++ linePosts s.window x.window) :
    s.Posts (flush (evaluate x)) (s.floorEvents (flush (evaluate x))) := by
  refine posts_of_perm (by simpa using hpp) ?_
  rw [evaluate_posts, h, hvu, hfloor, floorEvents_eq]
  simp

theorem laneLapse_of_silent {n : Fin 8} {r : HeldLane} (hheld : s.lanes[n] = .held r) (hsilence : r.silence = 2)
    (hkept : s.ownKept n = false) :
    laneLapse n s = evaluate (setLanes (mapLanes (fun j l => if j = n then .free else l) s.lanes) s) := by
  unfold laneLapse
  rw [hheld]
  exact if_pos ⟨by rw [hsilence], by simp [hkept]⟩

theorem lineEntryLapse_of_silent {a : Nat} (h : ∃ e ∈ s.window, e.asker = a ∧ e.silence = 2) :
    lineEntryLapse a s = evaluate (setWindow (removeAsker a s.window) s) := by
  unfold lineEntryLapse
  exact if_pos (by simpa using h)

theorem muteSourceLapse_of_silent {a : Nat} (h : ∃ m ∈ s.mutes, m.chair = a ∧ m.silence = 2) :
    muteSourceLapse a s = setMutes (muteLeave a s.mutes) s := by
  unfold muteSourceLapse
  exact if_pos (by simpa using h)

theorem setWindow_of_moved {w : List Entry}
    (h : w.map (fun e => (e.ticket, e.asker)) ≠ s.window.map fun e => (e.ticket, e.asker)) :
    setWindow w s = post .rl .lineChanged { s with window := w } := by
  simp [setWindow, lineMoved, windowPairs, Ne.symm h]

/-- Settles O41, lapse by lapse. -/
theorem lapsesRemoveWhatFellSilent : Obligations.LapsesRemoveWhatFellSilent := by
  unfold Obligations.LapsesRemoveWhatFellSilent
  intro n a s hs
  refine ⟨fun r hheld hsilence hown => gives_of_event hs (f := laneLapse (laneOf n)) rfl ?_,
    fun hsource => gives_of_event hs (f := muteSourceLapse a.toNat) rfl ?_,
    fun hentry => gives_of_event hs (f := lineEntryLapse a.toNat) rfl ?_⟩
  · have hkept : s.ownKept (laneOf n) = false := by
      rw [State.ownKept, hheld]
      simpa [Lane.holder?] using hown
    rw [laneLapse_of_silent hheld hsilence hkept]
    have hlanes (i : Fin 8) : (mapLanes (fun j l => if j = laneOf n then .free else l) s.lanes)[i] = _ :=
      mapLanes_get _ s.lanes i
    generalize mapLanes (fun j l => if j = laneOf n then .free else l) s.lanes = w at *
    have hevents : laneEvents s.lanes w = [{ block := .fv, event := .laneChanged (laneOf n) }] :=
      laneEvents_of_one (by rw [hlanes, hheld, if_pos rfl]; rfl) fun i hi => by rw [hlanes, if_neg hi]
    refine ⟨fun i => ?_, by simp, ?_, fun hwaits => ?_, fun ticket ⟨hwaits, hask, hrunning, hfree⟩ => ?_⟩
    · rw [show (flush (evaluate (setLanes w s))).lanes = w by simp]
      exact hlanes i
    · refine posts_evaluate (by simp) (by simp) (setLanes_posts w s) ?_
      simp [hs.2]
    · rw [evaluate_of_not_waiting (by simpa using hwaits),
        flush_of_one (b := .fv) (e := .laneChanged (laneOf n)) (by rw [setLanes_outbox, hs.2, hevents]; rfl), state_eq_iff]
      simp [State.posting, hs.2]
    · exact evaluated_flush (evaluate_evaluated hwaits hask hrunning hfree)
  · rw [muteSourceLapse_of_silent hsource]
    have hsome : s.mutes.isEmpty = false := by
      obtain ⟨m, hm, -⟩ := hsource
      cases hmutes : s.mutes with
      | nil => rw [hmutes] at hm; cases hm
      | cons => rfl
    refine ⟨by simp [muteLeave], by simp, by simp, fun hleft => ?_, fun hempty => ⟨?_, ?_⟩⟩
    · have hmore : (muteLeave a.toNat s.mutes).isEmpty = false := by simpa using hleft
      have heffect : setMutes (muteLeave a.toNat s.mutes) s = { s with mutes := muteLeave a.toNat s.mutes } :=
        if_pos (by rw [hmore, hsome])
      rw [heffect, flush_of_empty (by exact hs.2)]
    · have hnone : muteLeave a.toNat s.mutes = [] := by simpa using hempty
      rw [hnone, show (flush (setMutes [] s)).st = (setMutes [] s).st by simp]
      exact setMutes_st_of_cleared hsome
    · have hnone : muteLeave a.toNat s.mutes = [] := by simpa using hempty
      rw [hnone, flush_of_one (b := .fv) (e := .muteChanged false)]
      · simp [State.posting]
      · simp [setMutes, hsome, hs.2]
  · rw [lineEntryLapse_of_silent hentry]
    have hpairs : (removeAsker a.toNat s.window).map (fun e => (e.ticket, e.asker)) ≠
        s.window.map fun e => (e.ticket, e.asker) := by
      obtain ⟨e, he, hasker, -⟩ := hentry
      exact pairs_ne_of_left ⟨e, he, by simp [hasker]⟩
    rw [setWindow_of_moved hpairs]
    refine ⟨by simp [removeAsker], by simp, ?_, fun hwaits => ?_, fun ticket ⟨hwaits, hask, hrunning, hfree⟩ => ?_⟩
    · exact posts_evaluate (posted := [.lineChanged]) (by simp) (by simp) (by simp [hs.2]) (by simp [linePosts, hpairs])
    · rw [evaluate_of_not_waiting (by simpa using hwaits), flush_post _ _ (by exact hs.2)]
      simp [State.posting]
    · exact evaluated_flush (evaluate_evaluated hwaits hask hrunning hfree)

/-! ## The repeat of an order -/

/-- R48: the view tick at which a repeat falls due. -/
theorem tickRepeat_of_due (hchair : s.role = .chair) (hsettled : s.seat.isSettling = false) (hseat : s.seat ≠ .listen)
    (hrunning : s.flags.restartPending = false) (hcount : 3 ≤ s.sq.repeatCount) :
    tickRepeat s = placeRepeat { s with sq := { s.sq with repeatCount := 0 } } := by
  unfold tickRepeat
  rw [if_pos ⟨by simp [State.isChair, hchair], by simp [hsettled], hseat, by simp [hrunning]⟩, if_neg (by omega)]

/-- R48, R104: a repeat in an ORDER slot that holds nothing. -/
theorem placeRepeat_of_empty (horder : s.sq.order = none) (hnext : s.sq.nextOrder = none)
    (hfree : s.flying .order = false) :
    placeRepeat s = { s with sq := { s.sq with
      order := some { content := if s.order.origin = .profile then .new .fromRecord else .repeated, count := 0 } } } := by
  unfold placeRepeat
  rw [if_neg (by simp [horder, hnext])]
  split
  · simp [placeOrder, hfree]
  · rfl

/-- R48: no repeat behind a frame. -/
theorem placeRepeat_of_held (h : s.sq.order.isSome = true ∨ s.sq.nextOrder.isSome = true) : placeRepeat s = s := by
  unfold placeRepeat
  rw [if_pos (by simpa using h)]

/-! ## The body of an order -/

theorem modeOfCode_modeCode (m : Mode) : modeOfCode (BitVec.ofNat 2 (modeCode m)).toNat = m := by
  cases m <;> rfl

theorem toNat_ofNat_of_lt {n x : Nat} (h : x < 2 ^ n) : (BitVec.ofNat n x).toNat = x := by
  rw [BitVec.toNat_ofNat, Nat.mod_eq_of_lt h]

/-- Settles O40: the repeat at its count, and the three bodies by their fields. -/
theorem ordersAreRepeatedAndStampedFromTheRecord : Obligations.OrdersAreRepeatedAndStampedFromTheRecord := by
  unfold Obligations.OrdersAreRepeatedAndStampedFromTheRecord
  intro o s
  refine ⟨fun hs hchair hsettled hseat hrunning hcount => ?_, fun hrange hlo hhi => ?_⟩
  · have hdue : orderRepeat s = placeRepeat { s with sq := { s.sq with repeatCount := 0 } } :=
      (if_pos (by omega)).trans (tickRepeat_of_due hchair hsettled hseat hrunning (by omega))
    refine ⟨fun horder hnext hfree => ?_, fun hheld => ?_⟩
    · have heffect := hdue.trans (placeRepeat_of_empty (by exact horder) (by exact hnext) (by exact hfree))
      exact gives_of_quiet hs (f := orderRepeat) rfl (by rw [heffect]; exact hs.2) heffect
    · have heffect := hdue.trans (placeRepeat_of_held (by exact hheld))
      exact gives_of_quiet hs (f := orderRepeat) rfl (by rw [heffect]; exact hs.2) heffect
  · obtain ⟨⟨-, hlimit⟩, hallowance, hgrace, ⟨-, hcapacity⟩, hsource, -⟩ := hrange
    refine ⟨⟨_, _, _, _, _, _, rfl, toNat_ofNat_of_lt (by omega), modeOfCode_modeCode _, toNat_ofNat_of_lt (by omega),
        toNat_ofNat_of_lt (by omega), toNat_ofNat_of_lt (by omega), toNat_ofNat_of_lt (by omega)⟩,
      ⟨_, _, _, _, _, _, rfl, toNat_ofNat_of_lt (by omega), modeOfCode_modeCode _, toNat_ofNat_of_lt (by omega),
        toNat_ofNat_of_lt (by omega), toNat_ofNat_of_lt (by omega), toNat_ofNat_of_lt (by omega)⟩,
      fun hl ha hg hc =>
      ⟨_, _, _, _, _, _, rfl, toNat_ofNat_of_lt (by omega), modeOfCode_modeCode _, toNat_ofNat_of_lt (by omega),
        toNat_ofNat_of_lt (by omega), toNat_ofNat_of_lt (by omega), toNat_ofNat_of_lt (by omega)⟩⟩

end Sys2Proof.Instant
end

section

/-! The view tick (R45, R46, R48, R63, R68, R90, R113, R145) and the end of SETTLING (R103, R107). -/

namespace Sys2Proof.Instant

open Sys2Proof Sys2Proof.Machine

-- One proof at a time: the text is compiled in bounded memory.
set_option Elab.async false

variable {s : State}

/-! ## The FLOOR slot alone -/

/-- The queue with its FLOOR slot, and what is held for it, as in another. -/
def withFloorSlot (q q' : SendQ) : SendQ := { q with floor := q'.floor, floorHeld := q'.floorHeld }

theorem placeFloor_slots (c : FloorFrame) (u : State) : (placeFloor c u).sq = withFloorSlot u.sq (placeFloor c u).sq := by
  unfold placeFloor
  split <;> rfl

theorem beginTake_slots (k : IntendedTake) (u : State) : (beginTake k u).sq = withFloorSlot u.sq (beginTake k u).sq := by
  have h := placeFloor_slots .take (enterTaking k u)
  simp only [enterTaking_keeps] at h
  exact h

theorem evaluate_slots (u : State) : (evaluate u).sq = withFloorSlot u.sq (evaluate u).sq := by
  unfold evaluate
  split
  · split
    · exact beginTake_slots _ u
    · rfl
  · rfl

/-- R112: a seat in IDLE carries out a press decision at its FLOOR slot alone, and starts no tail. -/
theorem carryOut_of_idle {u : State} (k : TakeKind) (d : Decision) (hu : u.seat = .idle) :
    (carryOut k d u).sq = withFloorSlot u.sq (carryOut k d u).sq ∧ (carryOut k d u).gc = u.gc := by
  have idle (v : State) (hv : v.seat = .idle) : (enterIdle v).gc = v.gc := by simp [enterIdle, hv, Seat.own?]
  cases d with
  | take lane displace => exact ⟨beginTake_slots _ u, by simp [carryOut]⟩
  | ask =>
    simp only [carryOut, askNew]
    split
    · exact ⟨by simp [withFloorSlot], by simp [idle u hu]⟩
    · split
      · exact ⟨by simp [withFloorSlot], by simp [idle u hu]⟩
      · exact ⟨placeFloor_slots .ask { u with ownAsk := .pending }, by simp⟩
  | noLane => exact ⟨by simp [carryOut, withFloorSlot], by simp [carryOut]⟩
  | nothing => exact ⟨rfl, rfl⟩

/-! ## The floor at a view tick -/

/-- R63, R64, R68: the view after a view tick. -/
theorem viewTickView_fields (hs : s.outbox = []) :
    (viewTickView s).viewTicks = nextTick s.viewTicks ∧
    (∀ i : Fin 8, (viewTickView s).lanes[i] = tickLane (s.ownKept i) s.lanes[i]) ∧
    (viewTickView s).mutes = tickMutes s.mutes ∧
    (viewTickView s).st = { s.st with phase := (viewTickView s).st.phase } ∧
    (viewTickView s).outbox.map Posted.event =
      lanePosts s.lanes (viewTickView s).lanes ++ mutePosts s.mutes (viewTickView s).mutes := by
  refine ⟨by simp [viewTickView], fun i => ?_, by simp [viewTickView], setMutes_st _ _, ?_⟩
  · rw [show (viewTickView s).lanes = mapLanes (fun i l => tickLane (s.ownKept i) l) s.lanes by simp [viewTickView]]
    exact mapLanes_get _ s.lanes i
  · simp only [viewTickView, setMutes_posts, setLanes_posts]
    simp [hs]

/-- R63, R64, R68, R90, R145: the floor after a view tick. -/
theorem tickFloor_fields {q : State} (hs : s.outbox = []) (hq : viewTickLine (viewTickView s) = q) :
    q.viewTicks = nextTick s.viewTicks ∧ (∀ i : Fin 8, q.lanes[i] = tickLane (s.ownKept i) s.lanes[i]) ∧
    q.mutes = tickMutes s.mutes ∧ q.window = tickWindow s.window ∧
    q.st.waitMeter = (match s.ownAsk with | .live _ => min 65535 (s.st.waitMeter + 1) | _ => s.st.waitMeter) ∧
    q.st = { s.st with waitMeter := q.st.waitMeter, phase := q.st.phase } ∧
    q.outbox.map Posted.event =
      lanePosts s.lanes q.lanes ++ mutePosts s.mutes q.mutes ++ linePosts s.window q.window := by
  obtain ⟨hticks, hlanes, hmutes, hst, hposts⟩ := viewTickView_fields hs
  have hask : (viewTickView s).ownAsk = s.ownAsk := by simp
  have hwindow : (viewTickView s).window = s.window := by simp
  generalize viewTickView s = v at *
  have hqst : q.st = (tickWait (setWindow (tickWindow v.window) v)).st := by
    rw [← hq]
    simp [viewTickLine]
  have hqwindow : q.window = tickWindow s.window := by
    rw [← hq]
    simp [viewTickLine, hwindow]
  have hqlanes : q.lanes = v.lanes ∧ q.mutes = v.mutes ∧ q.viewTicks = v.viewTicks := by
    rw [← hq]
    simp
  obtain ⟨hl, hm, ht⟩ := hqlanes
  have hqout : q.outbox.map Posted.event = v.outbox.map Posted.event ++ linePosts s.window q.window := by
    rw [hqwindow, ← hwindow, ← setWindow_posts, ← hq]
    simp [viewTickLine]
  refine ⟨ht.trans hticks, fun i => by rw [hl]; exact hlanes i, hm.trans hmutes, hqwindow, ?_, ?_, ?_⟩
  · rw [hqst]
    simp only [tickWait, setWindow_keeps, hask]
    have hmeter : v.st.waitMeter = s.st.waitMeter := by rw [hst]
    cases s.ownAsk <;> simp [hmeter]
  · rw [hqst]
    simp only [tickWait, setWindow_keeps, hask]
    cases s.ownAsk
    · simp only [setWindow_keeps]
      rw [hst]
    · simp only [setWindow_keeps]
      rw [hst]
    · dsimp only
      rw [hst]
  · rw [hqout, hposts, hl, hm]

/-- R46: the ASKREF slot after a view tick. -/
theorem tickFloor_sq :
    (viewTickLine (viewTickView s)).sq = { s.sq with
      askref := if s.ownAsk ≠ .none ∧ s.ownAsk ≠ .pending ∧ s.flags.restartPending = false ∧ s.flying .askref = false
        then some (s.sq.askref.getD 0) else s.sq.askref
      askrefHeld := s.sq.askrefHeld ||
        (decide (s.ownAsk ≠ .none ∧ s.ownAsk ≠ .pending) && !s.flags.restartPending && s.flying .askref) } := by
  have hkept : (tickWait (setWindow (tickWindow (viewTickView s).window) (viewTickView s))).sq = s.sq ∧
      (tickWait (setWindow (tickWindow (viewTickView s).window) (viewTickView s))).ownAsk = s.ownAsk ∧
      (tickWait (setWindow (tickWindow (viewTickView s).window) (viewTickView s))).flags = s.flags := by simp
  unfold viewTickLine
  generalize tickWait (setWindow (tickWindow (viewTickView s).window) (viewTickView s)) = v at *
  obtain ⟨hsq, hask, hflags⟩ := hkept
  have hflying : v.flying .askref = s.flying .askref := by simp [State.flying, hsq]
  simp only [placeRefresh, hask, hflags, hflying]
  cases s.ownAsk with
  | none => simp [hsq]
  | pending => simp [hsq]
  | live t => cases s.flags.restartPending <;> cases s.flying .askref <;> simp [hsq]

/-! ## The repeat count and the HOLD -/

/-- R48: the seats at which repeats are counted. -/
def repeatsCounted (u : State) : Bool :=
  u.isChair && !u.seat.isSettling && decide (u.seat ≠ .listen) && !u.flags.restartPending

theorem repeatsCounted_iff {u : State} :
    repeatsCounted u = true ↔ u.isChair ∧ ¬ u.seat.isSettling ∧ u.seat ≠ .listen ∧ ¬ u.flags.restartPending := by
  simp [repeatsCounted, and_assoc]

/-- The queue with its ORDER slot, next-order place and repeat count as in another. -/
def withOrderSlot (q q' : SendQ) : SendQ :=
  { q with order := q'.order, nextOrder := q'.nextOrder, repeatCount := q'.repeatCount }

theorem placeOrder_slots (n : NewOrder) (u : State) : placeOrder n u = { u with sq := withOrderSlot u.sq (placeOrder n u).sq } := by
  unfold placeOrder
  split <;> rfl

theorem placeRepeat_slots (u : State) : placeRepeat u = { u with sq := withOrderSlot u.sq (placeRepeat u).sq } := by
  unfold placeRepeat
  split
  · rfl
  · split
    · exact placeOrder_slots _ u
    · rfl

/-- R48: at a view tick the ORDER slot, the next-order place and the repeat count alone can move. -/
theorem tickRepeat_slots (u : State) : tickRepeat u = { u with sq := withOrderSlot u.sq (tickRepeat u).sq } := by
  unfold tickRepeat
  split
  · split
    · rfl
    · exact placeRepeat_slots { u with sq := { u.sq with repeatCount := 0 } }
  · rfl

theorem placeRepeat_repeatCount (u : State) : (placeRepeat u).sq.repeatCount = u.sq.repeatCount := by
  unfold placeRepeat
  split
  · rfl
  · split
    · unfold placeOrder
      split <;> rfl
    · rfl

/-- R48: the count at a view tick, and the repeat that falls due. -/
theorem tickRepeat_fields (u : State) :
    (tickRepeat u).sq.repeatCount =
      (if repeatsCounted u then (if u.sq.repeatCount < 3 then u.sq.repeatCount + 1 else 0) else u.sq.repeatCount) ∧
    (repeatsCounted u = true → 3 ≤ u.sq.repeatCount → u.sq.order = none → u.sq.nextOrder = none →
      u.flying .order = false → (tickRepeat u).sq.order = some
        { content := if u.order.origin = .profile then .new .fromRecord else .repeated, count := 0 }) ∧
    (repeatsCounted u = false ∨ u.sq.repeatCount < 3 ∨ u.sq.order ≠ none ∨ u.sq.nextOrder ≠ none →
      (tickRepeat u).sq.order = u.sq.order) := by
  by_cases hcounted : repeatsCounted u = true
  · have hcond := repeatsCounted_iff.mp hcounted
    by_cases hcount : u.sq.repeatCount < 3
    · have heffect : tickRepeat u = { u with sq := { u.sq with repeatCount := u.sq.repeatCount + 1 } } := by
        unfold tickRepeat
        rw [if_pos hcond, if_pos (by omega)]
      rw [heffect]
      simp [hcounted, hcount]
    · have heffect : tickRepeat u = placeRepeat { u with sq := { u.sq with repeatCount := 0 } } := by
        unfold tickRepeat
        rw [if_pos hcond, if_neg (by omega)]
      rw [heffect]
      refine ⟨by rw [placeRepeat_repeatCount]; simp [hcounted, hcount], fun _ _ horder hnext hfree => ?_, fun hheld => ?_⟩
      · rw [placeRepeat_of_empty (by exact horder) (by exact hnext) (by exact hfree)]
      · rw [placeRepeat_of_held (by
          simpa [hcounted, hcount, Option.isSome_iff_ne_none] using hheld)]
  · have heffect : tickRepeat u = u := if_neg fun hcond => hcounted (repeatsCounted_iff.mpr hcond)
    rw [heffect]
    simp [hcounted]

/-- R45: the HOLD that a LIVE or WARNED seat places. -/
theorem placeHold_eq (u : State) :
    placeHold u = { u with sq := { u.sq with
      hold := if u.seat.speaking?.isSome = true ∧ u.flags.restartPending = false ∧ u.flying .hold = false
        then some (u.sq.hold.getD 0) else u.sq.hold
      holdHeld := u.sq.holdHeld || (u.seat.speaking?.isSome && !u.flags.restartPending && u.flying .hold) } } := by
  unfold placeHold
  cases u.seat.speaking? <;> cases u.flags.restartPending <;> cases u.flying .hold <;> simp

/-! ## The end of SETTLING -/

/-- R103, R107: the seat at the end of SETTLING, before a pending press acts. -/
def settled (u : State) : State :=
  let v := if u.isChair ∧ u.order.origin = .profile then placeOrder .fromRecord { u with seat := .idle }
    else { u with seat := .idle }
  { v with flags := { v.flags with pendingPress := false } }

theorem endSettling_eq (u : State) :
    endSettling u =
      if u.flags.pendingPress ∧ ¬ u.coughKey then carryOut .key (talkDecision (settled u)) (settled u) else settled u := by
  have hidle : (settled u).seat = .idle := by
    simp only [settled]
    split <;> simp
  have htalk : talkPress .key (settled u) = carryOut .key (talkDecision (settled u)) (settled u) := by
    simp [talkPress, hidle]
  rw [← htalk]
  rfl

theorem settled_eq (u : State) :
    settled u = { u with
      seat := .idle, flags := { u.flags with pendingPress := false }, sq := withOrderSlot u.sq (settled u).sq } ∧
      (settled u).sq.repeatCount = u.sq.repeatCount := by
  unfold settled placeOrder
  dsimp only
  split
  · split <;> exact ⟨rfl, rfl⟩
  · exact ⟨rfl, rfl⟩

/-- What the end of SETTLING leaves: all but the seat, the Own Ask, the queue's ORDER and FLOOR slots, the Voice Unit, the
flash and what is posted. -/
theorem endSettling_keeps (u : State) :
    (endSettling u).viewTicks = u.viewTicks ∧ (endSettling u).lanes = u.lanes ∧ (endSettling u).mutes = u.mutes ∧
      (endSettling u).window = u.window ∧ (endSettling u).mark = u.mark ∧ (endSettling u).order = u.order ∧
      (endSettling u).st = u.st ∧ (endSettling u).gc = u.gc ∧ (endSettling u).li = u.li ∧
      (endSettling u).key1 = u.key1 ∧ (endSettling u).key2 = u.key2 ∧ (endSettling u).key3 = u.key3 ∧
      (endSettling u).sq = withFloorSlot (withOrderSlot u.sq (endSettling u).sq) (endSettling u).sq ∧
      (endSettling u).sq.repeatCount = u.sq.repeatCount := by
  obtain ⟨hsettled, hcount⟩ := settled_eq u
  rw [endSettling_eq]
  generalize settled u = v at *
  split
  · obtain ⟨hsq, hgc⟩ := carryOut_of_idle .key (talkDecision v) (u := v) (by rw [hsettled])
    generalize hd : carryOut .key (talkDecision v) v = w at hsq hgc
    have hkept : w.viewTicks = v.viewTicks ∧ w.lanes = v.lanes ∧ w.mutes = v.mutes ∧ w.window = v.window ∧
        w.mark = v.mark ∧ w.order = v.order ∧ w.st = v.st ∧ w.li = v.li ∧ w.key1 = v.key1 ∧ w.key2 = v.key2 ∧
        w.key3 = v.key3 := by
      rw [← hd]
      simp
    obtain ⟨h1, h2, h3, h4, h5, h6, h7, h8, h9, h10, h11⟩ := hkept
    rw [h1, h2, h3, h4, h5, h6, h7, h8, h9, h10, h11, hgc]
    refine ⟨by rw [hsettled], by rw [hsettled], by rw [hsettled], by rw [hsettled], by rw [hsettled], by rw [hsettled],
      by rw [hsettled], by rw [hsettled], by rw [hsettled], by rw [hsettled], by rw [hsettled], by rw [hsettled], ?_, ?_⟩
    · rw [hsq, hsettled]
      rfl
    · rw [hsq, ← hcount]
      rfl
  · refine ⟨by rw [hsettled], by rw [hsettled], by rw [hsettled], by rw [hsettled], by rw [hsettled], by rw [hsettled],
      by rw [hsettled], by rw [hsettled], by rw [hsettled], by rw [hsettled], by rw [hsettled], by rw [hsettled], ?_, hcount⟩
    rw [hsettled]
    rfl

/-! ## The view tick -/

/-- The station at a view tick, before SETTLING is counted and the seat evaluates. -/
def ticked (s : State) : State := placeHold (tickRepeat (viewTickLine (viewTickView s)))

theorem viewTick_eq (s : State) : viewTick s = evaluate (tickSettling (ticked s)) := rfl

/-- What counting SETTLING and evaluating leave. -/
theorem viewTick_keeps {w z : State} (hz : evaluate (tickSettling w) = z) :
    z.viewTicks = w.viewTicks ∧ z.lanes = w.lanes ∧ z.mutes = w.mutes ∧ z.window = w.window ∧ z.mark = w.mark ∧
      z.order = w.order ∧ z.st = w.st ∧ z.gc = w.gc ∧ z.li = w.li ∧ z.key1 = w.key1 ∧ z.key2 = w.key2 ∧
      z.key3 = w.key3 ∧ z.sq = withFloorSlot (withOrderSlot w.sq z.sq) z.sq ∧ z.sq.repeatCount = w.sq.repeatCount := by
  have hsettling : (tickSettling w).viewTicks = w.viewTicks ∧ (tickSettling w).lanes = w.lanes ∧
      (tickSettling w).mutes = w.mutes ∧ (tickSettling w).window = w.window ∧ (tickSettling w).mark = w.mark ∧
      (tickSettling w).order = w.order ∧ (tickSettling w).st = w.st ∧ (tickSettling w).gc = w.gc ∧
      (tickSettling w).li = w.li ∧ (tickSettling w).key1 = w.key1 ∧ (tickSettling w).key2 = w.key2 ∧
      (tickSettling w).key3 = w.key3 ∧
      (tickSettling w).sq = withFloorSlot (withOrderSlot w.sq (tickSettling w).sq) (tickSettling w).sq ∧
      (tickSettling w).sq.repeatCount = w.sq.repeatCount := by
    unfold tickSettling
    split
    · split
      · exact ⟨rfl, rfl, rfl, rfl, rfl, rfl, rfl, rfl, rfl, rfl, rfl, rfl, rfl, rfl⟩
      · exact endSettling_keeps w
    · exact ⟨rfl, rfl, rfl, rfl, rfl, rfl, rfl, rfl, rfl, rfl, rfl, rfl, rfl, rfl⟩
  have hsq := evaluate_slots (tickSettling w)
  obtain ⟨h1, h2, h3, h4, h5, h6, h7, h8, h9, h10, h11, h12, h13, h14⟩ := hsettling
  rw [hz] at hsq
  refine ⟨by simpa [← hz] using h1, by simpa [← hz] using h2, by simpa [← hz] using h3, by simpa [← hz] using h4,
    by simpa [← hz] using h5, by simpa [← hz] using h6, by simpa [← hz] using h7, by simpa [← hz] using h8,
    by simpa [← hz] using h9, by simpa [← hz] using h10, by simpa [← hz] using h11, by simpa [← hz] using h12, ?_, ?_⟩
  · rw [hsq, h13]
    rfl
  · rw [hsq, ← h14]
    rfl

theorem queue_alone {w q : State} (h : ∃ queue, w = { q with sq := queue }) : w = { q with sq := w.sq } := by
  obtain ⟨queue, rfl⟩ := h
  rfl

/-- R45, R46, R48: the queue at a view tick, slot by slot. -/
theorem ticked_fields {q w : State} (hq : viewTickLine (viewTickView s) = q) (hw : ticked s = w) :
    w = { q with sq := w.sq } ∧
    w.sq.hold = (if s.seat.speaking?.isSome = true ∧ s.flags.restartPending = false ∧ s.flying .hold = false
      then some (s.sq.hold.getD 0) else s.sq.hold) ∧
    w.sq.holdHeld = (s.sq.holdHeld || (s.seat.speaking?.isSome && !s.flags.restartPending && s.flying .hold)) ∧
    w.sq.askref = q.sq.askref ∧ w.sq.askrefHeld = q.sq.askrefHeld ∧ w.sq.direct = s.sq.direct ∧
    w.sq.inFlight = s.sq.inFlight ∧ w.sq.floor = s.sq.floor ∧ w.sq.order = (tickRepeat q).sq.order ∧
    w.sq.repeatCount = (tickRepeat q).sq.repeatCount := by
  have hsq : q.sq = { s.sq with askref := q.sq.askref, askrefHeld := q.sq.askrefHeld } := by
    rw [← hq, tickFloor_sq]
  have hqkept : q.seat = s.seat ∧ q.flags = s.flags := by
    rw [← hq]
    simp
  obtain ⟨hseat, hflags⟩ := hqkept
  have hslots := tickRepeat_slots q
  have hu : (tickRepeat q).seat = s.seat ∧ (tickRepeat q).flags = s.flags ∧
      (tickRepeat q).sq.hold = s.sq.hold ∧ (tickRepeat q).sq.holdHeld = s.sq.holdHeld ∧
      (tickRepeat q).sq.askref = q.sq.askref ∧ (tickRepeat q).sq.askrefHeld = q.sq.askrefHeld ∧
      (tickRepeat q).sq.direct = s.sq.direct ∧ (tickRepeat q).sq.inFlight = s.sq.inFlight ∧
      (tickRepeat q).sq.floor = s.sq.floor := by
    rw [hslots]
    dsimp only [withOrderSlot]
    rw [hsq]
    exact ⟨hseat, hflags, rfl, rfl, rfl, rfl, rfl, rfl, rfl⟩
  have hwq : w = placeHold (tickRepeat q) := by rw [← hw, ← hq]; rfl
  generalize tickRepeat q = u at *
  obtain ⟨huseat, huflags, h1, h2, h3, h4, h5, h6, h7⟩ := hu
  have hflying : u.flying .hold = s.flying .hold := by simp [State.flying, h6]
  have halone : ∃ queue, w = { q with sq := queue } := by
    obtain ⟨queue, hqueue⟩ : ∃ queue, u = { q with sq := queue } := ⟨_, hslots⟩
    rw [hwq, placeHold_eq, hqueue]
    exact ⟨_, rfl⟩
  rw [placeHold_eq, huseat, huflags, hflying, h1, h2] at hwq
  subst hwq
  exact ⟨queue_alone halone, rfl, rfl, h3, h4, h5, h6, h7, rfl, rfl⟩

/-- R107: short of its fourth view tick, SETTLING is counted and nothing else. -/
theorem tickSettling_of_short {w : State} (hlaw : ∀ n, w.seat = .settling n → n ≤ 3) (h : w.seat ≠ .settling 3) :
    ∃ seat, tickSettling w = { w with seat := seat } := by
  unfold tickSettling
  split
  next n hn =>
    have hcount : n + 1 < 4 := by
      have hle := hlaw n hn
      have hne : n ≠ 3 := fun h3 => h (h3 ▸ hn)
      omega
    rw [if_pos hcount]
    exact ⟨_, rfl⟩
  next => exact ⟨_, rfl⟩

/-- R64: a lane at a view tick, told by whether the seat keeps it. -/
theorem tickLane_ownKept (s : State) (i : Fin 8) :
    tickLane (s.ownKept i) s.lanes[i] = match s.lanes[i] with
      | .free => .free
      | .held r =>
        if r.holder = s.addr ∧ s.seat.own?.map OwnLane.lane = some i then .held { r with age := min 65535 (r.age + 1) }
        else if 2 ≤ r.silence then .free
        else .held { r with age := min 65535 (r.age + 1), silence := r.silence + 1 } := by
  cases hlane : s.lanes[i] with
  | free => rfl
  | held r =>
    have hkept : s.ownKept i = decide (r.holder = s.addr ∧ s.seat.own?.map OwnLane.lane = some i) := by
      rw [State.ownKept, show s.lanes[i] = .held r from hlane]
      simp [Lane.holder?]
    simp only [tickLane, hkept, decide_eq_true_eq, show 3 ≤ r.silence + 1 ↔ 2 ≤ r.silence by omega]

/-- Settles O38: the floor ages in one piece, each slot of the queue by its own rule, and the seat evaluates last. -/
theorem viewTickAgesTheFloorAndPlacesHolds : Obligations.ViewTickAgesTheFloorAndPlacesHolds := by
  unfold Obligations.ViewTickAgesTheFloorAndPlacesHolds
  intro s hs hlaw
  refine gives_of_event hs (f := viewTick) rfl ?_
  rw [viewTick_eq]
  generalize hq : viewTickLine (viewTickView s) = q
  generalize hw : ticked s = w
  generalize hz : evaluate (tickSettling w) = z
  obtain ⟨hqticks, hqlanes, hqmutes, hqwindow, hqmeter, hqst, hqposts⟩ := tickFloor_fields hs.2 hq
  obtain ⟨hwq, hhold, hholdHeld, haskref, haskrefHeld, hdirect, hflight, hfloor, horderSlot, hrepeat⟩ := ticked_fields hq hw
  obtain ⟨hticks, hlanes, hmutes, hwindow, hmark, horder, hst, hgc, hli, hk1, hk2, hk3, hslots, hcount⟩ :=
    viewTick_keeps hz
  have hqsq : q.sq = _ := hq ▸ tickFloor_sq
  have hqkept : q.mark = s.mark ∧ q.order = s.order ∧ q.gc = s.gc ∧ q.li = s.li ∧ q.key1 = s.key1 ∧ q.key2 = s.key2 ∧
      q.key3 = s.key3 ∧ q.ownAsk = s.ownAsk ∧ q.seat = s.seat ∧ q.flags = s.flags ∧ q.vu = s.vu ∧ q.pp = s.pp ∧
      q.role = s.role := by
    rw [← hq]
    simp
  obtain ⟨hqmark, hqorder, hqgc, hqli, hqk1, hqk2, hqk3, hqask, hqseat, hqflags, hqvu, hqpp, hqrole⟩ := hqkept
  have hwkept : w.viewTicks = q.viewTicks ∧ w.lanes = q.lanes ∧ w.mutes = q.mutes ∧ w.window = q.window ∧
      w.mark = q.mark ∧ w.order = q.order ∧ w.st = q.st ∧ w.gc = q.gc ∧ w.li = q.li ∧ w.key1 = q.key1 ∧
      w.key2 = q.key2 ∧ w.key3 = q.key3 ∧ w.ownAsk = q.ownAsk ∧ w.seat = q.seat ∧ w.flags = q.flags ∧ w.vu = q.vu ∧
      w.pp = q.pp ∧ w.outbox = q.outbox := by
    rw [hwq]
    exact ⟨rfl, rfl, rfl, rfl, rfl, rfl, rfl, rfl, rfl, rfl, rfl, rfl, rfl, rfl, rfl, rfl, rfl, rfl⟩
  obtain ⟨h1, h2, h3, h4, h5, h6, h7, h8, h9, h10, h11, h12, hwask, hwseat, hwflags, hwvu, hwpp, hwout⟩ := hwkept
  have hshort (h3 : s.seat ≠ .settling 3) : ∃ seat, tickSettling w = { w with seat := seat } :=
    tickSettling_of_short (fun n hn => hlaw n (hqseat ▸ hwseat ▸ hn)) (by rw [hwseat, hqseat]; exact h3)
  have hlane (i : Fin 8) : z.lanes[i] = tickLane (s.ownKept i) s.lanes[i] := by
    rw [← hqlanes i]
    exact congrArg (fun l => l[i]) (hlanes.trans h2)
  have hask : s.seat ≠ .settling 3 → z.ownAsk = s.ownAsk := fun h3 => by
    obtain ⟨seat, hseat⟩ := hshort h3
    rw [← hz, hseat]
    simp [hwask, hqask]
  have hwposts : w.outbox.map Posted.event =
      lanePosts s.lanes w.lanes ++ mutePosts s.mutes w.mutes ++ linePosts s.window w.window := by
    rw [hwout, h2, h3, h4]
    exact hqposts
  have hposts : s.seat ≠ .settling 3 → s.Posts (flush z) (s.floorEvents (flush z)) := fun hne => by
    obtain ⟨seat, hseat⟩ := hshort hne
    rw [← hz, hseat]
    exact posts_evaluate (x := { w with seat := seat }) ⟨by rw [hwpp, hqpp], by rw [hwpp, hqpp]⟩ (hwvu.trans hqvu)
      hwposts rfl
  have hslot : z.sq.hold = w.sq.hold ∧ z.sq.holdHeld = w.sq.holdHeld ∧ z.sq.askref = w.sq.askref ∧
      z.sq.askrefHeld = w.sq.askrefHeld ∧ z.sq.direct = w.sq.direct ∧ z.sq.inFlight = w.sq.inFlight := by
    rw [hslots]
    exact ⟨rfl, rfl, rfl, rfl, rfl, rfl⟩
  obtain ⟨hzhold, hzholdHeld, hzaskref, hzaskrefHeld, hzdirect, hzflight⟩ := hslot
  have horderKept : s.seat ≠ .settling 3 → z.sq.order = w.sq.order := fun h3 => by
    obtain ⟨seat, hseat⟩ := hshort h3
    have hsq := evaluate_slots (tickSettling w)
    rw [hz, hseat] at hsq
    rw [hsq]
    rfl
  have hevaluated (ticket : Nat) (hlive : s.ownAsk = .live ticket) (hwaiting : s.seat = .waiting)
      (hrestart : s.flags.restartPending = false) (hfree : s.flying .floor = false) :
      z.Evaluated ticket s.sq.floor := by
    have hstill : tickSettling w = w := by simp [tickSettling, hwseat, hqseat, hwaiting]
    rw [← hz, hstill, ← hfloor]
    exact evaluate_evaluated (by rw [hwseat, hqseat, hwaiting]) (by rw [hwask, hqask, hlive])
      (by rw [hwflags, hqflags, hrestart]) (by simpa [State.flying, hflight] using hfree)
  have hqcount : q.sq.repeatCount = s.sq.repeatCount ∧ q.sq.order = s.sq.order ∧ q.sq.nextOrder = s.sq.nextOrder ∧
      q.sq.inFlight = s.sq.inFlight := by
    rw [hqsq]
    exact ⟨rfl, rfl, rfl, rfl⟩
  obtain ⟨hqrepeat, hqorderSlot, hqnext, hqflight⟩ := hqcount
  have hqaskref := congrArg SendQ.askref hqsq
  have hqaskrefHeld := congrArg SendQ.askrefHeld hqsq
  dsimp only at hqaskref hqaskrefHeld
  obtain ⟨hcounts, hdue, hstays⟩ := tickRepeat_fields q
  have hcounted : repeatsCounted q = repeatsCounted s := by
    simp [repeatsCounted, State.isChair, hqrole, hqseat, hqflags]
  have hflyingOrder : q.flying .order = s.flying .order := by simp [State.flying, hqflight]
  rw [hcounted, hqrepeat] at hcounts
  rw [hcounted, hqrepeat, hqorderSlot, hqnext, hflyingOrder, hqorder] at hdue
  rw [hcounted, hqrepeat, hqorderSlot, hqnext] at hstays
  have hsettling : repeatsCounted s = true → s.seat ≠ .settling 3 := fun h h3 => by
    simp [repeatsCounted, h3, Seat.isSettling] at h
  simp only [flush_keeps]
  rw [hticks, hmutes, hwindow, hmark, horder, hst, hgc, hli, hk1, hk2, hk3, h1, h3, h4, h5, h6, h7, h8, h9,
    h10, h11, h12, hqmark, hqorder, hqgc, hqli, hqk1, hqk2, hqk3, hqticks, hqmutes, hqwindow, Kept.tickMutes_eq,
    Kept.tickWindow_eq, hzhold, hzholdHeld, hzaskref, hzaskrefHeld, hzdirect, hzflight, hhold, hholdHeld, haskref,
    haskrefHeld, hqaskref, hqaskrefHeld, hdirect, hflight, hcount, hrepeat, hcounts]
  refine ⟨rfl, fun i => (hlane i).trans (tickLane_ownKept s i), rfl, rfl, rfl, ?_, rfl, hqmeter, hqst, rfl, rfl, ⟨rfl, rfl, rfl⟩, hposts, rfl, rfl, rfl, rfl, rfl,
    rfl, ⟨rfl, fun hr h3 ho hn hf => ?_, fun hor h3 => ?_⟩, fun ticket hlive hwaiting hrestart hfree =>
      evaluated_flush (hevaluated ticket hlive hwaiting hrestart hfree)⟩
  · split
    next => rfl
    next h3 => exact hask h3
  · rw [horderKept (hsettling hr), horderSlot]
    exact hdue hr h3 ho hn hf
  · rw [horderKept h3, horderSlot]
    exact hstays hor

/-! ## The fourth view tick -/

/-- A SETTLING seat with nothing asked has nothing to place at a view tick but what SETTLING's end places. -/
theorem ticked_of_settling {n : Nat} (hseat : s.seat = .settling n) (hask : s.ownAsk = .none) :
    (ticked s).sq = s.sq := by
  have hq : (viewTickLine (viewTickView s)).sq = s.sq ∧ (viewTickLine (viewTickView s)).seat = .settling n := by
    rw [tickFloor_sq]
    exact ⟨by simp [hask], by simp [hseat]⟩
  obtain ⟨hsq, hqseat⟩ := hq
  unfold ticked
  generalize viewTickLine (viewTickView s) = q at *
  have hstill : tickRepeat q = q := by
    unfold tickRepeat
    rw [if_neg]
    simp [hqseat, Seat.isSettling]
  rw [hstill, placeHold_of_silent (by rw [hqseat]; rfl)]
  exact hsq

theorem ticked_keeps (s : State) :
    (ticked s).seat = s.seat ∧ (ticked s).flags = s.flags ∧ (ticked s).order = s.order ∧ (ticked s).role = s.role := by
  unfold ticked
  rw [placeHold_eq, tickRepeat_slots]
  exact ⟨by simp, by simp, by simp, by simp⟩

/-- R103, R107: the queue and the flags at the end of SETTLING, on an ORDER slot with no frame in flight. -/
theorem settled_of_idle {u : State} (hfree : u.sq.inFlight = none) (horder : u.sq.order = none) :
    settled u = { u with
      seat := .idle, flags := { u.flags with pendingPress := false }
      sq := { u.sq with order :=
        if u.isChair = true ∧ u.order.origin = .profile then some { content := .new .fromRecord, count := 0 }
        else none } } := by
  have hflying : u.flying .order = false := by simp [State.flying, hfree]
  have hflyingIdle : ({ u with seat := .idle } : State).flying .order = false := hflying
  unfold settled
  split
  next h => simp [placeOrder, hflyingIdle]
  next h =>
    dsimp only
    rw [← horder]

theorem settlingEnd_of_fourth (hseat : s.seat = .settling 3) : settlingEnd s = endSettling s := by
  simp [settlingEnd, hseat]

/-- Settles O39: the fourth tick ends SETTLING on the seat, the flags and the ORDER slot, after which a pending press acts. -/
theorem settlingEndsAtTheFourthViewTick : Obligations.SettlingEndsAtTheFourthViewTick := by
  unfold Obligations.SettlingEndsAtTheFourthViewTick
  intro n s hs hseat hidle hfree hask
  obtain ⟨horder, -, -, -, -⟩ := hidle
  refine ⟨fun hn => ?_, fun hn => ⟨fun hpress => ⟨?_, ?_⟩, fun hpress hrole hmode hmark hroom => ?_, fun hpress hrole hmode => ?_⟩⟩
  · refine gives_of_event hs (f := viewTick) rfl ?_
    obtain ⟨hwseat, hwflags, -, -⟩ := ticked_keeps s
    have hsettling : tickSettling (ticked s) = { ticked s with seat := .settling (n + 1) } := by
      simp [tickSettling, hwseat, hseat, show n < 3 from hn]
    rw [viewTick_eq, hsettling, evaluate_of_not_waiting (by simp)]
    simp [ticked_of_settling hseat hask, hwflags]
  · refine gives_of_event hs (f := viewTick) rfl ?_
    obtain ⟨hwseat, hwflags, hworder, hwrole⟩ := ticked_keeps s
    have hsq := ticked_of_settling hseat hask
    rw [viewTick_eq]
    generalize ticked s = w at *
    have hsettled := settled_of_idle (u := w) (by rw [hsq, hfree]) (by rw [hsq, horder])
    have hsettling : tickSettling w = settled w := by
      simp only [tickSettling, hwseat, hseat, hn]
      rw [if_neg (by omega), endSettling_eq]
      simp [hwflags, hpress]
    rw [hsettling, evaluate_of_not_waiting (by simp [hsettled]), hsettled]
    simp only [flush_keeps, State.isChair, hworder, hwrole, hsq, hwflags]
    exact ⟨trivial, by rw [← hpress], rfl⟩
  · have heffect : settlingEnd s = settled s := by
      rw [settlingEnd_of_fourth (hn ▸ hseat), endSettling_eq]
      simp [hpress]
    rw [settled_of_idle hfree horder] at heffect
    refine gives_of_quiet hs (f := settlingEnd) rfl (by rw [heffect]; exact hs.2) ?_
    rw [heffect, ← hpress]
  · have hchair : s.isChair = false := by simp [State.isChair, hrole]
    have hsettled := settled_of_idle hfree horder
    rw [hchair, ← horder] at hsettled
    have heffect : settlingEnd s = askNew (settled s) := by
      rw [settlingEnd_of_fourth (hn ▸ hseat), endSettling_eq]
      simp [hpress, State.coughKey, hmode, hsettled, talkDecision, hrole, delegateDecision, carryOut]
    have hasked : settlingEnd s = { s with
        seat := .asking, ownAsk := .pending, flags := { s.flags with pendingPress := false }
        sq := { s.sq with floor := some { content := .ask, count := 0 } } } := by
      rw [heffect, hsettled]
      unfold askNew placeFloor
      simp [State.flying, hfree, show ¬ 65535 ≤ s.mark by omega, show ¬ s.order.capacity ≤ s.window.length by omega]
    refine gives_of_quiet hs (f := settlingEnd) rfl (by rw [hasked]; exact hs.2) ?_
    rw [hasked]
  · have hchair : s.isChair = false := by
      rcases (show s.role = .priority ∨ s.role = .delegate by simpa [State.isDelegateSeat] using hrole) with h | h <;>
        simp [State.isChair, h]
    have hsettled := settled_of_idle hfree horder
    rw [hchair, ← horder] at hsettled
    have heffect : settlingEnd s = { s with seat := .idle, flags := { s.flags with pendingPress := false } } := by
      rw [settlingEnd_of_fourth (hn ▸ hseat), endSettling_eq]
      simp [State.coughKey, hmode, hrole, hsettled]
    refine gives_of_quiet hs (f := settlingEnd) rfl (by rw [heffect]; exact hs.2) ?_
    rw [heffect]

end Sys2Proof.Instant
end

section

/-! Attempts that do not complete (R8, R14, R40, R42, R43, R120, R124). -/

namespace Sys2Proof.Instant

open Sys2Proof Sys2Proof.Machine

-- One proof at a time: the text is compiled in bounded memory.
set_option Elab.async false

variable {s : State} {fl : Flight}

/-! ## The queue at the end of an attempt -/

/-- R40: after a lost or an abandoned attempt of a frame with nothing held behind it the queue stands as it was. -/
theorem keepPending_of_uncounted (hheld : s.sq.heldFor fl.slot = false) :
    keepPending fl.slot 0 s = { s with sq := { s.sq with inFlight := none } } := by
  have hbump {α : Type} (x : Option (Slotted α)) : x.map (Slotted.bump 0) = x := by cases x <;> rfl
  unfold keepPending
  cases hslot : fl.slot <;> rw [hslot] at hheld <;> simp only [SendQ.heldFor] at hheld
  case order => simp [Option.isSome_eq_false_iff.mp hheld |> Option.isNone_iff_eq_none.mp, hbump]
  case direct => cases hd : s.sq.direct <;> simp [hd, Slotted.bump]
  case floor => simp [Option.isSome_eq_false_iff.mp hheld |> Option.isNone_iff_eq_none.mp, hbump]
  case askref => simp [hheld]
  case hold => simp [hheld]

/-- R42: after an objected attempt of a frame with nothing held behind it the frame has counted it. -/
theorem keepPending_of_counted (hheld : s.sq.heldFor fl.slot = false) :
    keepPending fl.slot 1 s = { s with sq := { s.sq.counted fl.slot with inFlight := none } } := by
  unfold keepPending SendQ.counted
  cases hslot : fl.slot <;> rw [hslot] at hheld <;> simp only [SendQ.heldFor] at hheld
  case order =>
    simp only [Option.isSome_eq_false_iff.mp hheld |> Option.isNone_iff_eq_none.mp]
    rfl
  case direct => cases hd : s.sq.direct <;> simp [hd, Slotted.bump]
  case floor =>
    simp only [Option.isSome_eq_false_iff.mp hheld |> Option.isNone_iff_eq_none.mp]
    rfl
  case askref => simp [hheld]
  case hold => simp [hheld]

/-- R40: a frame held behind one that stays replaces it: with count 0 in the ORDER and FLOOR slots. -/
theorem keepPending_of_held :
    (fl.slot = .order → ∀ n, s.sq.nextOrder = some n → keepPending fl.slot 0 s =
      { s with sq := { s.sq with order := some { content := .new n, count := 0 }, nextOrder := none, inFlight := none } }) ∧
    (fl.slot = .floor → ∀ c, s.sq.floorHeld = some c → keepPending fl.slot 0 s =
      { s with sq := { s.sq with floor := some { content := c, count := 0 }, floorHeld := none, inFlight := none } }) ∧
    (fl.slot = .askref → keepPending fl.slot 0 s = { s with sq := { s.sq with askrefHeld := false, inFlight := none } }) ∧
    (fl.slot = .hold → keepPending fl.slot 0 s = { s with sq := { s.sq with holdHeld := false, inFlight := none } }) := by
  refine ⟨fun hslot n hn => ?_, fun hslot c hc => ?_, fun hslot => ?_, fun hslot => ?_⟩
  · simp [keepPending, hslot, hn]
  · simp [keepPending, hslot, hc]
  · simp [keepPending, hslot]
  · simp [keepPending, hslot]

/-- R42: a dropped or completed frame with nothing held behind it leaves its slot. -/
theorem takeOut_of_alone (hheld : s.sq.heldFor fl.slot = false) :
    takeOut fl.slot s = { s with sq := { s.sq.removed fl.slot with inFlight := none } } := by
  unfold takeOut SendQ.removed
  cases hslot : fl.slot <;> rw [hslot] at hheld <;> simp only [SendQ.heldFor] at hheld
  case order => simp [Option.isSome_eq_false_iff.mp hheld |> Option.isNone_iff_eq_none.mp]
  case direct => simp
  case floor => simp [Option.isSome_eq_false_iff.mp hheld |> Option.isNone_iff_eq_none.mp]
  case askref => simp [hheld]
  case hold => simp [hheld]

/-! ## The Seat Agent at an attempt that ends -/

/-- R40: outside the wait of a restart and without a latch, the queue alone keeps the frame. -/
theorem attemptStays_of_no_latch {n : Nat} (hrestart : s.flags.restartPending = false) (hlatch : s.flags.cancelLatch = none) :
    attemptStays fl n s = keepPending fl.slot n s := by
  unfold attemptStays
  simp only [hrestart, hlatch]
  split
  · cases fl.frame.body <;> simp
  · simp

/-- R8: LI after it has lost arbitration. -/
def lostLine (s : State) : State := { s with li := { s.li with status := .receiving, idleCount := 0, tx := [] } }

theorem attemptLost_eq (hflight : s.sq.inFlight = some fl) (hstatus : s.li.status = .lead ∨ s.li.status = .arbitrating)
    (hfault : s.li.bitFault = false) : attemptLost s = checkRestart (attemptStays fl 0 (lostLine s)) := by
  simp [attemptLost, lostLine, hflight, hstatus, hfault]

/-- R8, R40: a lost attempt without a latch is the queue's and the line's alone. -/
theorem attemptLost_of_no_latch (hflight : s.sq.inFlight = some fl) (hrestart : s.flags.restartPending = false)
    (hlatch : s.flags.cancelLatch = none) (hstatus : s.li.status = .lead ∨ s.li.status = .arbitrating)
    (hfault : s.li.bitFault = false) : attemptLost s = keepPending fl.slot 0 (lostLine s) := by
  rw [attemptLost_eq hflight hstatus hfault, attemptStays_of_no_latch (by exact hrestart) (by exact hlatch)]
  exact checkRestart_of_running hrestart

/-- R42: an objected attempt without a latch, short of its fourth. -/
theorem attemptObjected_of_no_latch (hflight : s.sq.inFlight = some fl) (hrestart : s.flags.restartPending = false)
    (hlatch : s.flags.cancelLatch = none) (hcount : s.flightCount fl.slot < 3) :
    attemptObjected s = keepPending fl.slot 1 (lineIdle s) := by
  simp only [attemptObjected, hflight]
  rw [if_neg (by omega), attemptStays_of_no_latch (by exact hrestart) (by exact hlatch)]
  exact checkRestart_of_running hrestart

/-- R43: the FLOOR slot after a lost attempt with nothing held behind its frame, which then leaves. -/
theorem removeFloor_of_lost (hslot : fl.slot = .floor) (hheld : s.sq.floorHeld = none) :
    removeFloor { keepPending fl.slot 0 s with flags := { s.flags with cancelLatch := none } } =
      { s with flags := { s.flags with cancelLatch := none }, sq := { s.sq with floor := none, inFlight := none } } := by
  rw [keepPending_of_uncounted (by rw [hslot]; simp [SendQ.heldFor, hheld]), removeFloor_of_free (by simp [State.flying])]

/-- R94, R120: a cancelled ASK that has lost leaves its slot, the line and the seat. -/
theorem attemptStays_of_cancelled_ask {c : Cause} {refresh : Bool} (hrestart : s.flags.restartPending = false)
    (hlatch : s.flags.cancelLatch = some c) (hc : c ≠ .restart) (hslot : fl.slot = .floor) (hheld : s.sq.floorHeld = none)
    (hbody : fl.frame.body = .ask refresh) (hseat : s.seat = .asking) (hask : s.ownAsk = .pending) :
    attemptStays fl 0 s = post .rl (.askEnded .withdrawn) { s with
      seat := .idle, ownAsk := .none, st := { s.st with waitMeter := 0 }, flags := { s.flags with cancelLatch := none }
      sq := { s.sq with floor := none, inFlight := none } } := by
  have hstays : attemptStays fl 0 s = cancelledAsk c (keepPending fl.slot 0 s) := by
    simp [attemptStays, hrestart, hslot, hbody, hlatch]
  have hflags : (keepPending fl.slot 0 s).flags = s.flags := rfl
  rw [hstays, cancelledAsk, hflags, removeFloor_of_lost hslot hheld]
  simp [endOwnAsk, hask, hc, enterIdle, hseat, Seat.own?, post]

/-- R94, R120: a cancelled TAKE that has lost leaves its slot, and the seat goes back to the line or to IDLE. -/
theorem attemptStays_of_cancelled_take {c : Cause} {lane : BitVec 3} {displace muting : Bool} {k : IntendedTake}
    (hrestart : s.flags.restartPending = false) (hlatch : s.flags.cancelLatch = some c) (hc : c ≠ .restart)
    (hslot : fl.slot = .floor) (hheld : s.sq.floorHeld = none) (hbody : fl.frame.body = .take lane displace muting)
    (hseat : s.seat = .taking k) :
    attemptStays fl 0 s = { s with
      seat := if k.kind = .line ∨ k.kind = .grant then .waiting else .idle
      flags := { s.flags with cancelLatch := none }, sq := { s.sq with floor := none, inFlight := none } } := by
  have hstays : attemptStays fl 0 s = cancelledTake c (keepPending fl.slot 0 s) := by
    simp [attemptStays, hrestart, hslot, hbody, hlatch]
  have hseatKept : (keepPending fl.slot 0 s).seat = .taking k := hseat
  have hflags : (keepPending fl.slot 0 s).flags = s.flags := rfl
  rw [hstays, cancelledTake, hflags, removeFloor_of_lost hslot hheld]
  simp only [hseatKept, if_neg hc, leaveTake]
  rw [removeFloor_of_free (by simp [State.flying])]
  cases k.kind <;> simp [enterIdle, hseat, Seat.own?]

/-- Settles O18: a lost or objected attempt moves the line and the slot of its frame; the latch is the Seat Agent's. -/
theorem failedAttemptsKeepTheFrame : Obligations.FailedAttemptsKeepTheFrame := by
  unfold Obligations.FailedAttemptsKeepTheFrame
  intro fl s hs hflight hrestart
  refine ⟨fun hlatch hstatus hfault => ?_, fun c hlatch hc hstatus hfault hslot hheld => ?_, fun hheld hlatch =>
    ⟨fun hstatus hfault => ?_, fun _ hcount => ?_⟩⟩
  · have heffect := attemptLost_of_no_latch hflight hrestart hlatch hstatus hfault
    refine gives_of_quiet hs (f := attemptLost) rfl (by rw [heffect]; exact hs.2) ?_
    rw [heffect]
    obtain ⟨horder, hfloor, haskref, hhold⟩ := keepPending_of_held (s := lostLine s) (fl := fl)
    exact ⟨horder, hfloor, fun hslot _ => haskref hslot, fun hslot _ => hhold hslot⟩
  · refine gives_of_event hs (f := attemptLost) rfl ?_
    rw [attemptLost_eq hflight hstatus hfault]
    dsimp only
    split
    next hbody hseat =>
      intro hask
      have hstays := attemptStays_of_cancelled_ask (s := lostLine s) hrestart hlatch hc hslot hheld hbody hseat hask
      rw [hstays, checkRestart_of_running (by exact hrestart)]
      exact flush_post _ _ hs.2
    next k hbody hseat =>
      have hstays := attemptStays_of_cancelled_take (s := lostLine s) hrestart hlatch hc hslot hheld hbody hseat
      rw [hstays, checkRestart_of_running (by exact hrestart), flush_of_empty (by exact hs.2)]
      rfl
    next => trivial
  · have heffect := attemptLost_of_no_latch hflight hrestart hlatch hstatus hfault
    refine gives_of_quiet hs (f := attemptLost) rfl (by rw [heffect]; exact hs.2) ?_
    rw [heffect, keepPending_of_uncounted (s := lostLine s) hheld]
    rfl
  · have heffect := attemptObjected_of_no_latch hflight hrestart hlatch hcount
    refine gives_of_quiet hs (f := attemptObjected) rfl (by rw [heffect]; exact hs.2) ?_
    rw [heffect, keepPending_of_counted (s := lineIdle s) hheld]
    rfl

end Sys2Proof.Instant
end

section

/-! The fourth objection (R42, R112, R124), and the stuck line (R18, R19, R49). -/

namespace Sys2Proof.Instant

open Sys2Proof Sys2Proof.Machine

-- One proof at a time: the text is compiled in bounded memory.
set_option Elab.async false

variable {s : State} {fl : Flight}

/-! ## A dropped frame -/

/-- R42: the station after its frame in flight, with nothing held behind it, has left its slot at a fourth objection. -/
def withoutFrame (fl : Flight) (s : State) : State :=
  { lineIdle s with sq := { s.sq.removed fl.slot with inFlight := none } }

/-- R42: the fourth objection, as the owner of the frame finds it. -/
theorem attemptObjected_of_fourth (hflight : s.sq.inFlight = some fl) (hheld : s.sq.heldFor fl.slot = false)
    (hcount : s.flightCount fl.slot = 3) :
    attemptObjected s =
      checkRestart (ownerDropped fl (post .sq (.sendFailed fl.frame.body.cls) (withoutFrame fl s))) := by
  simp only [attemptObjected, hflight]
  rw [if_pos (by omega), attemptDropped, takeOut_of_alone (s := lineIdle s) hheld]
  rfl

theorem enterIdle_post (b : Block) (e : Event) (u : State) : enterIdle (post b e u) = post b e (enterIdle u) := by
  unfold enterIdle startTail
  by_cases hown : u.seat.own?.isSome = true
  · by_cases htail : u.gc.spkMute = true ∧ u.gc.duckTail = .stopped
    · simp only [post, hown, htail, if_true, and_self]
      rfl
    · simp [post, hown, htail]
  · simp [post, hown]

/-- R112, R124: a refusal after a SEND_FAILED posts both. -/
theorem posts_refused {u v : State} {e : Event} {r : Refused} (hpp : v.pp = s.pp) (hout : v.outbox = u.outbox)
    (hu : u.outbox = [{ block := .sq, event := e }]) : s.Posts (flush (refuse r v)) [e, .askRefused r] := by
  refine posts_of_perm (by simp [hpp]) ?_
  simp [refuse, hout, hu]

theorem mem_of_send_refused {t : State} {n : Nat} (h : s.Posts t [.sendFailed n, .askRefused .send])
    (hroom : s.pp.events.length ≤ 14) (hclear : ∀ r ∈ s.pp.events, r.event ≠ .overrun) (hticks : t.viewTicks = s.viewTicks) :
    { event := .sendFailed n, stamp := s.viewTicks : EventRec } ∈ t.pp.events ∧
      { event := .askRefused .send, stamp := s.viewTicks : EventRec } ∈ t.pp.events := by
  have hlen : s.pp.events.length + 2 ≤ 16 := by omega
  exact ⟨mem_of_posts h rfl (by simp) (by simp) hlen hclear hticks, mem_of_posts h rfl (by simp) (by simp) hlen hclear hticks⟩

/-- R124: the seat of a TAKE dropped on its way from the line waits again. -/
theorem takeDropped_of_line {k : IntendedTake} (hseat : s.seat = .taking k) (hkind : k.kind = .line ∨ k.kind = .grant) :
    takeDropped s = { s with seat := .waiting } := by
  obtain h | h := hkind <;> simp [takeDropped, hseat, h]

/-- R124: a dropped direct KEY take of a delegate in OPEN becomes an ask. -/
theorem takeDropped_of_direct {k : IntendedTake} (hseat : s.seat = .taking k) (hkind : k.kind = .key)
    (hrole : s.role = .delegate) (hmode : s.order.mode = .openFloor) (hkey : k.key = 0) : takeDropped s = askNew s := by
  simp [takeDropped, hseat, hkind, hrole, hmode, hkey]

theorem takeDropped_of_refused {k : IntendedTake} (hseat : s.seat = .taking k)
    (hkind : k.kind = .voice ∨ k.kind = .priority ∨
      k.kind = .key ∧ ¬ (s.role = .delegate ∧ s.order.mode = .openFloor ∧ k.key = 0)) :
    takeDropped s = refuse .send (enterIdle s) := by
  obtain h | h | ⟨h, hnot⟩ := hkind
  · simp [takeDropped, hseat, h]
  · simp [takeDropped, hseat, h]
  · simp only [takeDropped, hseat, h]
    rw [if_neg hnot]

theorem askNew_of_room (hmark : s.mark < 65535) (hroom : s.window.length < s.order.capacity) :
    askNew s = { placeFloor .ask { s with ownAsk := .pending } with seat := .asking } := by
  simp [askNew, show ¬ 65535 ≤ s.mark by omega, show ¬ s.order.capacity ≤ s.window.length by omega]

theorem takeDropped_flags (u : State) : (takeDropped u).flags = u.flags := by
  unfold takeDropped askNew
  split
  · split
    · rfl
    · rfl
    · split_ifs <;> simp
    · simp
  · rfl

/-- R124: without a latch and outside the wait of a restart a drop moves no flag. -/
theorem ownerDropped_flags (hlatch : s.flags.cancelLatch = none) (hrestart : s.flags.restartPending = false) :
    (ownerDropped fl s).flags = s.flags := by
  unfold ownerDropped
  simp only [hlatch, hrestart]
  cases fl.frame.body with
  | ask refresh =>
    dsimp only
    split_ifs <;> simp [refuseOwnAsk]
  | take lane displace muting =>
    dsimp only
    split_ifs
    · exact takeDropped_flags s
    · rfl
  | yield lane reason =>
    dsimp only
    split_ifs
    · simp_all
    · split <;> simp
    · rfl
  | _ => simp

/-- R124: the seat of a dropped YIELD is IDLE. -/
theorem ownerDropped_of_yield {lane r : BitVec 3} {h : OwnLane} {x : YieldReason} (hslot : fl.slot = .floor)
    (hbody : fl.frame.body = .yield lane r) (hrestart : s.flags.restartPending = false) (hseat : s.seat = .yielding h x) :
    ownerDropped fl s = enterIdle s := by
  simp [ownerDropped, hslot, hbody, hrestart, hseat]

theorem ownerDropped_of_take {lane : BitVec 3} {displace muting : Bool} (hslot : fl.slot = .floor)
    (hbody : fl.frame.body = .take lane displace muting) (hlatch : s.flags.cancelLatch = none) :
    ownerDropped fl s = takeDropped s := by
  simp [ownerDropped, hslot, hbody, hlatch]

/-- R124: a dropped ASK ends the Own Ask and is refused. -/
theorem ownerDropped_of_ask {refresh : Bool} (hslot : fl.slot = .floor) (hbody : fl.frame.body = .ask refresh)
    (hlatch : s.flags.cancelLatch = none) (hseat : s.seat = .asking) :
    ownerDropped fl s = refuse .send (enterIdle (refuseOwnAsk s)) := by
  simp [ownerDropped, hslot, hbody, hlatch, hseat]

theorem ownerDropped_of_withdraw {r : BitVec 2} (hbody : fl.frame.body = .withdraw r) : ownerDropped fl s = s := by
  simp [ownerDropped, hbody]

/-- Settles O19: the frame leaves its slot with SEND_FAILED posted, and the owner reacts by what was dropped. -/
theorem fourthObjectionDropsTheFrame : Obligations.FourthObjectionDropsTheFrame := by
  unfold Obligations.FourthObjectionDropsTheFrame
  intro fl s hs hflight hheld hcount hrestart hlatch
  refine gives_of_event hs (f := attemptObjected) rfl ?_
  rw [attemptObjected_of_fourth hflight hheld hcount]
  intro u
  have hkept : u.flags = s.flags ∧ u.seat = s.seat ∧ u.pp = s.pp ∧ u.outbox = [] ∧ u.role = s.role ∧ u.order = s.order ∧
      u.mark = s.mark ∧ u.window = s.window ∧ u.lanes = s.lanes ∧ u.viewTicks = s.viewTicks ∧ u.sq.inFlight = none ∧
      (fl.slot = .floor → u.sq.floor = none) := by
    refine ⟨rfl, rfl, rfl, hs.2, rfl, rfl, rfl, rfl, rfl, rfl, rfl, fun hslot => ?_⟩
    simp [u, SendQ.removed, hslot]
  obtain ⟨hflags, hseatKept, hpp, hout, hrole, horder, hmark, hwindow, hlanes, hticks, hfree, hempty⟩ := hkept
  rw [show withoutFrame fl s = u from rfl]
  clear_value u
  have hlatchKept : u.flags.cancelLatch = none := hflags ▸ hlatch
  have hrestartKept : u.flags.restartPending = false := hflags ▸ hrestart
  rw [checkRestart_of_running (by rw [ownerDropped_flags (by exact hlatchKept) (by exact hrestartKept)]; exact hrestartKept)]
  refine ⟨fun hslot => ?_, fun hslot => ?_⟩
  · rw [show ownerDropped fl _ = _ from if_neg hslot]
    exact flush_post _ _ hout
  split
  next hbody =>
    rw [ownerDropped_of_withdraw hbody, hbody]
    exact flush_post _ _ hout
  next hbody hseat =>
    rw [ownerDropped_of_yield hslot hbody (by exact hrestartKept) (by exact hseatKept.trans hseat), hbody, enterIdle_post,
      flush_post _ _ (by simpa using hout)]
    simp [State.posting, hempty hslot, hlanes, hpp, hticks, Body.cls]
  next k hbody hseat =>
    rw [ownerDropped_of_take hslot hbody (by exact hlatchKept), hbody]
    have htaking : (post .sq (.sendFailed 3) u).seat = .taking k := hseatKept.trans hseat
    refine ⟨fun hkind => ?_, fun hkind hdelegate hmode hkey hroomMark hroom => ?_, fun hkind => ?_⟩
    · rw [show (Body.take _ _ _).cls = 3 from rfl, takeDropped_of_line htaking hkind]
      exact flush_post (s := { u with seat := .waiting }) .sq (.sendFailed 3) hout
    · rw [show (Body.take _ _ _).cls = 3 from rfl,
        takeDropped_of_direct htaking hkind (hrole.trans hdelegate) (by simpa [horder] using hmode) hkey,
        askNew_of_room (by simpa [hmark] using hroomMark) (by simpa [hwindow, horder] using hroom),
        placeFloor_of_free _ (by simp [State.flying, hfree])]
      exact flush_post (s := { u with
        seat := .asking, ownAsk := .pending, sq := { u.sq with floor := some { content := .ask, count := 0 } } })
        .sq (.sendFailed 3) hout
    · rw [show (Body.take _ _ _).cls = 3 from rfl,
        takeDropped_of_refused htaking (by simpa [hrole, horder] using hkind)]
      refine ⟨by simp, by simp, by simp [refuse], fun hroom hclear => ?_⟩
      exact mem_of_send_refused (posts_refused (u := post .sq (.sendFailed 3) u) (by simp [hpp]) (by simp) (by simp [hout]))
        hroom hclear (by simp [hticks])
  next hbody hseat =>
    rw [ownerDropped_of_ask hslot hbody (by exact hlatchKept) (by exact hseatKept.trans hseat), hbody]
    refine ⟨by simp, by simp [refuseOwnAsk], by simp [refuseOwnAsk], by simp [refuse], fun hroom hclear => ?_⟩
    exact mem_of_send_refused (posts_refused (u := post .sq (.sendFailed 5) u) (by simp [refuseOwnAsk, hpp])
      (by simp [refuseOwnAsk, Body.cls]) (by simp [hout])) hroom hclear (by simp [refuseOwnAsk, hticks])
  next => trivial

end Sys2Proof.Instant
end

section

/-! Restating a pending TAKE (R112, R116, R117). -/

namespace Sys2Proof.Instant

open Sys2Proof Sys2Proof.Machine

-- One proof at a time: the text is compiled in bounded memory.
set_option Elab.async false

variable {s : State} {t : IntendedTake}

/-- A seat that leaves its take for the line waits again with the FLOOR slot empty. -/
theorem leaveTake_of_line (hfree : s.sq.inFlight = none) (hkind : t.kind = .line ∨ t.kind = .grant) :
    leaveTake t s = { s with seat := .waiting, sq := { s.sq with floor := none } } := by
  obtain h | h := hkind <;> simp [leaveTake, h, removeFloor, State.flying, hfree]

/-- Any other seat that leaves its take is IDLE with the FLOOR slot empty. -/
theorem leaveTake_of_press (hfree : s.sq.inFlight = none) (hseat : s.seat = .taking t)
    (hkind : t.kind ≠ .line ∧ t.kind ≠ .grant) :
    leaveTake t s = { s with seat := .idle, sq := { s.sq with floor := none } } := by
  obtain ⟨hline, hgrant⟩ := hkind
  cases h : t.kind <;>
    simp_all [leaveTake, removeFloor, State.flying, enterIdle, Seat.own?]

/-- R112, R116: a take that has become an ask, or whose ask is refused. -/
theorem askNew_of_taking (hfree : s.sq.inFlight = none) (hseat : s.seat = .taking t) :
    askNew (removeFloor s) =
      if 65535 ≤ s.mark then
        { post .sa (.askRefused .saturated) s with seat := .idle, sq := { s.sq with floor := none }, flash := .running 2000 }
      else if s.order.capacity ≤ s.window.length then
        { post .sa (.askRefused .full) s with seat := .idle, sq := { s.sq with floor := none }, flash := .running 2000 }
      else { s with seat := .asking, ownAsk := .pending, sq := { s.sq with floor := some { content := .ask, count := 0 } } } := by
  have hremoved : removeFloor s = { s with sq := { s.sq with floor := none } } :=
    removeFloor_of_free (by simp [State.flying, hfree])
  rw [hremoved]
  simp [askNew, enterIdle, hseat, Seat.own?, refuse, signalRefusal, placeFloor, State.flying, hfree, post]

/-- R116: a take that goes ahead keeps its kind. -/
theorem retake_eq {k : TakeKind} (hkind : t.kind = k) (lane : Fin 8) (displace : Bool) :
    retake t lane displace s = { s with seat := .taking { t with
      lane := lane, displace := displace, mode := s.order.mode, muting := s.takeMuting k } } := by
  subst hkind
  rfl

/-- R116: a LINE take goes ahead with the lane the seat would take now. -/
theorem rerunTake_of_line (hkind : t.kind = .line) :
    (∀ lane ticket, s.selfTake? = some (lane, ticket) → rerunTake t s = retake t lane false s) ∧
      (s.selfTake? = none → rerunTake t s = leaveTake t s) := by
  constructor
  · intro lane ticket h
    simp only [rerunTake, hkind, h]
  · intro h
    simp only [rerunTake, hkind, h]

/-- R116: a GRANT take goes ahead while the ask is LIVE and a lane is FREE. -/
theorem rerunTake_of_grant (hkind : t.kind = .grant) :
    (∀ ticket lane rest, s.ownAsk = .live ticket → s.freeLanes = lane :: rest → rerunTake t s = retake t lane false s) ∧
      (s.freeLanes = [] ∨ (∀ ticket, s.ownAsk ≠ .live ticket) →
        rerunTake t s = post .sa (.grantNoLane t.grantor) (leaveTake t s)) := by
  constructor
  · intro ticket lane rest hask hfree
    simp only [rerunTake, hkind, hask, hfree]
  · intro h
    cases hask : s.ownAsk with
    | live ticket =>
      have hfree : s.freeLanes = [] := h.resolve_right fun hnone => hnone ticket hask
      simp only [rerunTake, hkind, hask, hfree]
    | none => simp only [rerunTake, hkind, hask]
    | pending => simp only [rerunTake, hkind, hask]

/-- R116: a KEY take decides again. -/
theorem rerunTake_of_key (hkind : t.kind = .key) :
    (∀ lane displace, talkDecision s = .take lane displace → rerunTake t s = retake t lane displace s) ∧
      (talkDecision s = .ask → rerunTake t s = askNew (removeFloor s)) ∧
      (talkDecision s = .noLane → rerunTake t s = refuse .noLane (leaveTake t s)) ∧
      (talkDecision s = .nothing → rerunTake t s = signalRefusal (leaveTake t s)) := by
  refine ⟨fun lane displace h => ?_, fun h => ?_, fun h => ?_, fun h => ?_⟩ <;> simp only [rerunTake, hkind, h]

/-- R116: a VOICE take decides again, in VOICE with the cough key up. -/
theorem rerunTake_of_voice (hkind : t.kind = .voice) :
    (∀ lane displace, attackDecision s = .take lane displace → rerunTake t s =
        if s.order.mode = .voice ∧ s.flags.cough = false then retake t lane displace s else leaveTake t s) ∧
      ((∀ lane displace, attackDecision s ≠ .take lane displace) → rerunTake t s = leaveTake t s) := by
  constructor
  · intro lane displace h
    simp only [rerunTake, hkind, h, Bool.not_eq_true]
  · intro h
    cases hdecision : attackDecision s with
    | take lane displace => exact absurd hdecision (h lane displace)
    | ask | noLane | nothing => simp only [rerunTake, hkind, hdecision, ite_self]

/-- R116: a PRIORITY take decides again. -/
theorem rerunTake_of_priority (hkind : t.kind = .priority) :
    (∀ lane displace, chairDecision s = .take lane displace → rerunTake t s = retake t lane displace s) ∧
      ((∀ lane displace, chairDecision s ≠ .take lane displace) → rerunTake t s = refuse .noLane (leaveTake t s)) := by
  constructor
  · intro lane displace h
    simp only [rerunTake, hkind, h]
  · intro h
    cases hdecision : chairDecision s with
    | take lane displace => exact absurd hdecision (h lane displace)
    | ask | noLane | nothing => simp only [rerunTake, hkind, hdecision]

/-- Settles O16: a displacement whose lane has become FREE is a plain take; otherwise the decision runs again, kind by kind. -/
theorem restatedTakeFollowsItsDecision : Obligations.RestatedTakeFollowsItsDecision := by
  unfold Obligations.RestatedTakeFollowsItsDecision
  intro k t s hseat hkind hfree
  refine ⟨fun ⟨hdisplace, hlane, hmode⟩ => ?_, fun hrerun => ?_⟩
  · rw [← hkind]
    exact if_pos ⟨hdisplace, hlane, hmode⟩
  have hrestate : restateTake t s = rerunTake t s := by
    refine if_neg fun ⟨hdisplace, hlane, hmode⟩ => ?_
    obtain h | h := hrerun hdisplace
    · exact Bool.noConfusion (h.symm.trans hlane)
    · exact h hmode
  rw [hrestate]
  have hpress (h : t.kind ≠ .line ∧ t.kind ≠ .grant) := leaveTake_of_press hfree hseat h
  have hline (h : t.kind = .line ∨ t.kind = .grant) := leaveTake_of_line (t := t) hfree h
  cases k with
  | line =>
    obtain ⟨htakes, hleaves⟩ := rerunTake_of_line (s := s) hkind
    cases hself : s.selfTake? with
    | some take =>
      obtain ⟨lane, ticket⟩ := take
      exact (htakes lane ticket hself).trans (retake_eq hkind lane false)
    | none => exact (hleaves hself).trans (hline (.inl hkind))
  | grant =>
    obtain ⟨htakes, hleaves⟩ := rerunTake_of_grant (s := s) hkind
    have hposted (h : s.freeLanes = [] ∨ ∀ ticket, s.ownAsk ≠ .live ticket) :
        rerunTake t s = post .sa (.grantNoLane t.grantor) { s with seat := .waiting, sq := { s.sq with floor := none } } :=
      (hleaves h).trans (congrArg _ (hline (.inr hkind)))
    cases hask : s.ownAsk with
    | live ticket =>
      cases hlanes : s.freeLanes with
      | cons lane rest =>
        dsimp only
        rw [← hask]
        exact (htakes ticket lane rest hask hlanes).trans (retake_eq hkind lane false)
      | nil =>
        dsimp only
        rw [← hask]
        exact hposted (.inl hlanes)
    | none =>
      dsimp only
      rw [← hask]
      exact hposted (.inr (by simp [hask]))
    | pending =>
      dsimp only
      rw [← hask]
      exact hposted (.inr (by simp [hask]))
  | key =>
    obtain ⟨htakes, hasks, hnoLane, hnothing⟩ := rerunTake_of_key (s := s) hkind
    have hidle := hpress (by simp [hkind])
    cases hdecision : talkDecision s with
    | take lane displace => exact (htakes lane displace hdecision).trans (retake_eq hkind lane displace)
    | ask => exact (hasks hdecision).trans (askNew_of_taking hfree hseat)
    | noLane => exact (hnoLane hdecision).trans (congrArg (refuse .noLane) hidle)
    | nothing => exact (hnothing hdecision).trans (congrArg signalRefusal hidle)
  | voice =>
    obtain ⟨htakes, hleaves⟩ := rerunTake_of_voice (s := s) hkind
    have hidle := hpress (by simp [hkind])
    cases hdecision : attackDecision s with
    | take lane displace =>
      dsimp only
      rw [htakes lane displace hdecision, retake_eq hkind, hidle]
      rfl
    | ask | noLane | nothing => exact (hleaves (by simp [hdecision])).trans hidle
  | priority =>
    obtain ⟨htakes, hleaves⟩ := rerunTake_of_priority (s := s) hkind
    have hidle := hpress (by simp [hkind])
    cases hdecision : chairDecision s with
    | take lane displace => exact (htakes lane displace hdecision).trans (retake_eq hkind lane displace)
    | ask | noLane | nothing => exact (hleaves (by simp [hdecision])).trans (congrArg (refuse .noLane) hidle)

end Sys2Proof.Instant
end

section

/-! A start boundary (R3, R4, R22, R38, R39, R81): restatement and the offer. -/

namespace Sys2Proof.Instant

open Sys2Proof Sys2Proof.Machine

-- One proof at a time: the text is compiled in bounded memory.
set_option Elab.async false

variable {s u r : State} {fl : Flight}

/-! ## What a restatement can do -/

/-- R38, R81, R116: what restating the FLOOR frame can move, and how. -/
structure Restates (u r : State) : Prop where
  frame : r = { u with
    seat := r.seat, sq := { u.sq with floor := r.sq.floor }, ownAsk := r.ownAsk
    st := { u.st with waitMeter := r.st.waitMeter }, gc := r.gc, flash := r.flash, outbox := r.outbox }
  ask : r.ownAsk = u.ownAsk ∨ r.ownAsk = .none ∨ r.ownAsk = .pending
  seat : r.seat = u.seat ∨ r.seat.speaking? = none
  posts : ∃ l, r.outbox = u.outbox ++ l ∧ l.length ≤ 1 ∧ ∀ p ∈ l, p.event ≠ .overrun

theorem Restates.refl (u : State) : Restates u u := ⟨rfl, .inl rfl, .inl rfl, [], by simp⟩

theorem restates_leaveTake {t : IntendedTake} (hfree : u.sq.inFlight = none) (hseat : u.seat = .taking t) :
    Restates u (leaveTake t u) ∧ (leaveTake t u).sq.floor = none ∧ (leaveTake t u).outbox = u.outbox := by
  by_cases hkind : t.kind = .line ∨ t.kind = .grant
  · rw [leaveTake_of_line hfree hkind]
    exact ⟨⟨rfl, .inl rfl, .inr rfl, [], by simp⟩, rfl, rfl⟩
  · rw [leaveTake_of_press hfree hseat (not_or.mp hkind)]
    exact ⟨⟨rfl, .inl rfl, .inr rfl, [], by simp⟩, rfl, rfl⟩

theorem Restates.post {b : Block} {e : Event} (h : Restates u r) (hout : r.outbox = u.outbox) (he : e ≠ .overrun) :
    Restates u (Machine.post b e r) := by
  refine ⟨?_, h.ask, h.seat, [{ block := b, event := e }], by simp [hout], by simp, by simpa using he⟩
  rw [h.frame]
  rfl

theorem Restates.signal (h : Restates u r) : Restates u (signalRefusal r) := by
  refine ⟨?_, h.ask, h.seat, h.posts⟩
  rw [h.frame]
  rfl

theorem Restates.refuse {x : Refused} (h : Restates u r) (hout : r.outbox = u.outbox) :
    Restates u (Machine.refuse x r) := (h.post hout (by simp)).signal

theorem restates_askNew {t : IntendedTake} (hfree : u.sq.inFlight = none) (hseat : u.seat = .taking t) :
    Restates u (askNew (removeFloor u)) := by
  rw [askNew_of_taking hfree hseat]
  split
  · exact ⟨rfl, .inl rfl, .inr rfl, [{ block := .sa, event := .askRefused .saturated }], rfl, by simp, by simp⟩
  split
  · exact ⟨rfl, .inl rfl, .inr rfl, [{ block := .sa, event := .askRefused .full }], rfl, by simp, by simp⟩
  · exact ⟨rfl, .inr (.inr rfl), .inr rfl, [], by simp⟩

theorem restates_retake {t : IntendedTake} {lane : Fin 8} {displace : Bool} : Restates u (retake t lane displace u) :=
  ⟨rfl, .inl rfl, .inr rfl, [], by simp [retake]⟩

theorem restates_rerunTake {t : IntendedTake} (hfree : u.sq.inFlight = none) (hseat : u.seat = .taking t) :
    Restates u (rerunTake t u) := by
  obtain ⟨hleft, -, hout⟩ := restates_leaveTake hfree hseat
  unfold rerunTake
  cases t.kind with
  | key =>
    dsimp only
    split
    next => exact restates_retake
    next => exact restates_askNew hfree hseat
    next => exact hleft.refuse hout
    next => exact hleft.signal
  | line =>
    dsimp only
    split
    next => exact restates_retake
    next => exact hleft
  | grant =>
    dsimp only
    split
    next => exact restates_retake
    next => exact hleft.post hout (by simp)
  | voice =>
    dsimp only
    split
    next =>
      split
      next => exact restates_retake
      next => exact hleft
    next => exact hleft
  | priority =>
    dsimp only
    split
    next => exact restates_retake
    next => exact hleft.refuse hout

/-- R81: an ASK at the Mark's end is withdrawn and refused. -/
theorem restateFloor_of_saturated {n : Nat} (hfree : u.sq.inFlight = none)
    (hfloor : u.sq.floor = some { content := .ask, count := n }) (hmark : 65535 ≤ u.mark) :
    restateFloor u = refuse .saturated (enterIdle { u with
      sq := { u.sq with floor := none }, ownAsk := .none, st := { u.st with waitMeter := 0 } }) := by
  simp only [restateFloor, hfloor, if_pos hmark]
  rw [removeFloor_of_free (by simp [State.flying, hfree])]
  rfl

theorem restateFloor_of_room {n : Nat} (hfloor : u.sq.floor = some { content := .ask, count := n }) (hmark : u.mark < 65535) :
    restateFloor u = u := by
  simp only [restateFloor, hfloor]
  exact if_neg (by omega)

theorem restates_enterIdle : Restates u (enterIdle { u with
    sq := { u.sq with floor := none }, ownAsk := .none, st := { u.st with waitMeter := 0 } }) := by
  refine ⟨?_, .inr (.inl (by simp)), .inr (by simp [Seat.speaking?]), [], by simp⟩
  unfold enterIdle startTail
  split
  · dsimp only
    split <;> rfl
  · rfl

/-- R38: what restating the FLOOR frame can do. -/
theorem restates_restateFloor (hfree : u.sq.inFlight = none) : Restates u (restateFloor u) := by
  unfold restateFloor
  split
  next =>
    split
    next t hseat =>
      unfold restateTake
      split
      · exact ⟨rfl, .inl rfl, .inr rfl, [], by simp⟩
      · exact restates_rerunTake hfree hseat
    next =>
      rw [removeFloor_of_free (by simp [State.flying, hfree])]
      exact ⟨rfl, .inl rfl, .inl rfl, [], by simp⟩
  next =>
    split
    next =>
      rw [removeFloor_of_free (by simp [State.flying, hfree])]
      exact restates_enterIdle.refuse (by simp)
    next => exact .refl u
  next => exact .refl u

theorem rerunTake_floor {t : IntendedTake} (hfree : u.sq.inFlight = none) (hseat : u.seat = .taking t) :
    (rerunTake t u).sq.floor = u.sq.floor ∨ (rerunTake t u).sq.floor = none ∨ u.mark < 65535 := by
  obtain ⟨-, hfloor, -⟩ := restates_leaveTake hfree hseat
  have hasked : (askNew (removeFloor u)).sq.floor = none ∨ u.mark < 65535 := by
    rw [askNew_of_taking hfree hseat]
    split
    next => exact .inl rfl
    next hmark => exact .inr (by omega)
  unfold rerunTake
  cases t.kind with
  | key =>
    dsimp only
    split
    next => exact .inl rfl
    next => exact .inr hasked
    next => exact .inr (.inl (by simpa using hfloor))
    next => exact .inr (.inl hfloor)
  | line =>
    dsimp only
    split
    next => exact .inl rfl
    next => exact .inr (.inl hfloor)
  | grant =>
    dsimp only
    split
    next => exact .inl rfl
    next => exact .inr (.inl (by simpa using hfloor))
  | voice =>
    dsimp only
    split
    next =>
      split
      next => exact .inl rfl
      next => exact .inr (.inl hfloor)
    next => exact .inr (.inl hfloor)
  | priority =>
    dsimp only
    split
    next => exact .inl rfl
    next => exact .inr (.inl (by simpa using hfloor))

/-- R81: a restated FLOOR slot holds an ASK only below the Mark's end. -/
theorem mark_of_restated_ask {n : Nat} (hfree : u.sq.inFlight = none)
    (h : (restateFloor u).sq.floor = some { content := .ask, count := n }) : u.mark < 65535 := by
  unfold restateFloor at h
  split at h
  next hfloor =>
    split at h
    next t hseat =>
      unfold restateTake at h
      split at h
      next => simp [hfloor] at h
      next =>
        obtain hsame | hnone | hmark := rerunTake_floor hfree hseat
        · simp [hsame, hfloor] at h
        · simp [hnone] at h
        · exact hmark
    next => simp [removeFloor, State.flying, hfree] at h
  next =>
    split at h
    next => simp [refuseOwnAsk, removeFloor, State.flying, hfree] at h
    next hmark => omega
  next hnot => exact absurd h (hnot _)

/-! ## What waits to be posted does not matter -/

/-- The station with postings of other blocks ahead of its own at an instant. -/
def behind (o : List Posted) (u : State) : State := { u with outbox := o ++ u.outbox }

theorem post_behind (o : List Posted) (b : Block) (e : Event) (u : State) :
    post b e (behind o u) = behind o (post b e u) := by
  simp [post, behind, List.append_assoc]

theorem refuse_behind (o : List Posted) (x : Refused) (u : State) : refuse x (behind o u) = behind o (refuse x u) := by
  simp only [refuse, post_behind]
  rfl

theorem enterIdle_behind (o : List Posted) (u : State) : enterIdle (behind o u) = behind o (enterIdle u) := by
  unfold enterIdle startTail
  by_cases hown : u.seat.own?.isSome = true
  · by_cases htail : u.gc.spkMute = true ∧ u.gc.duckTail = .stopped
    · simp only [behind, hown, htail, if_true, and_self]
      rfl
    · simp [behind, hown, htail]
  · simp [behind, hown]

theorem removeFloor_behind (o : List Posted) (u : State) : removeFloor (behind o u) = behind o (removeFloor u) := by
  unfold removeFloor
  rw [show (behind o u).flying .floor = u.flying .floor from rfl]
  split <;> rfl

theorem rerunTake_behind {t : IntendedTake} (o : List Posted) (hfree : u.sq.inFlight = none) (hseat : u.seat = .taking t) :
    rerunTake t (behind o u) = behind o (rerunTake t u) := by
  have hleft : leaveTake t (behind o u) = behind o (leaveTake t u) := by
    by_cases hkind : t.kind = .line ∨ t.kind = .grant
    · rw [leaveTake_of_line hfree hkind, leaveTake_of_line (s := behind o u) hfree hkind]
      rfl
    · rw [leaveTake_of_press hfree hseat (not_or.mp hkind),
        leaveTake_of_press (s := behind o u) hfree hseat (not_or.mp hkind)]
      rfl
  have hasked : askNew (removeFloor (behind o u)) = behind o (askNew (removeFloor u)) := by
    rw [askNew_of_taking hfree hseat, askNew_of_taking (s := behind o u) hfree hseat]
    simp only [behind, post, List.append_assoc]
    split
    · rfl
    split <;> rfl
  have htalk : talkDecision (behind o u) = talkDecision u := rfl
  have hattack : attackDecision (behind o u) = attackDecision u := rfl
  have hchair : chairDecision (behind o u) = chairDecision u := rfl
  have hself : (behind o u).selfTake? = u.selfTake? := rfl
  have hkept : (behind o u).ownAsk = u.ownAsk ∧ (behind o u).freeLanes = u.freeLanes ∧ (behind o u).order = u.order ∧
      (behind o u).flags = u.flags := ⟨rfl, rfl, rfl, rfl⟩
  obtain ⟨hask, hlanes, horder, hflags⟩ := hkept
  unfold rerunTake
  simp only [hleft, hasked, post_behind, refuse_behind, htalk, hattack, hchair, hself, hask, hlanes, horder, hflags]
  cases t.kind with
  | key =>
    dsimp only
    split <;> rfl
  | line =>
    dsimp only
    split <;> rfl
  | grant =>
    dsimp only
    split <;> rfl
  | voice =>
    dsimp only
    split
    · split <;> rfl
    · rfl
  | priority =>
    dsimp only
    split <;> rfl

theorem restateFloor_behind (o : List Posted) (hfree : u.sq.inFlight = none) :
    restateFloor (behind o u) = behind o (restateFloor u) := by
  have hkept : (behind o u).sq = u.sq ∧ (behind o u).seat = u.seat ∧ (behind o u).mark = u.mark := ⟨rfl, rfl, rfl⟩
  obtain ⟨hsq, hseatKept, hmark⟩ := hkept
  unfold restateFloor
  rw [hsq, hseatKept, hmark]
  split
  next =>
    split
    next t hseat =>
      unfold restateTake
      by_cases hplain : t.displace = true ∧ u.lanes[t.lane].isFree = true ∧ u.order.mode = t.mode
      · rw [if_pos hplain, if_pos (by exact hplain)]
        rfl
      · rw [if_neg hplain, if_neg (by exact hplain)]
        exact rerunTake_behind o hfree hseat
    next => exact removeFloor_behind o u
  next =>
    split
    next =>
      rw [removeFloor_behind, show refuseOwnAsk (behind o _) = behind o (refuseOwnAsk (removeFloor u)) from rfl,
        enterIdle_behind, refuse_behind]
    next => rfl
  next => rfl

theorem restateAll_behind (o : List Posted) (hfree : u.sq.inFlight = none) :
    restateAll (behind o u) = behind o (restateAll u) := by
  unfold restateAll
  rw [restateFloor_behind o hfree]
  generalize restateFloor u = v
  have hrefresh : restateRefresh (behind o v) = behind o (restateRefresh v) := by
    unfold restateRefresh
    rw [show (behind o v).ownAsk = v.ownAsk from rfl]
    split <;> rfl
  rw [hrefresh]
  generalize restateRefresh v = w
  unfold restateHold
  rw [show (behind o w).seat = w.seat from rfl]
  split <;> rfl

/-! ## Every owner restates -/

/-- R38, R45, R46: the refresh and the HOLD after the FLOOR frame has been restated. -/
theorem restateAll_slots (u : State) :
    restateAll u = { restateFloor u with
      sq := { (restateFloor u).sq with askref := (restateAll u).sq.askref, hold := (restateAll u).sq.hold } } ∧
    ((∀ t, (restateFloor u).ownAsk ≠ .live t) → (restateAll u).sq.askref = none) ∧
    ((restateFloor u).seat.speaking? = none → (restateAll u).sq.hold = none) := by
  unfold restateAll
  generalize restateFloor u = v
  have hrefresh : restateRefresh v = { v with sq := { v.sq with askref := (restateRefresh v).sq.askref } } ∧
      ((∀ t, v.ownAsk ≠ .live t) → (restateRefresh v).sq.askref = none) := by
    unfold restateRefresh
    split
    next t hlive => exact ⟨rfl, fun h => absurd hlive (h t)⟩
    next => exact ⟨rfl, fun _ => rfl⟩
  obtain ⟨hframe, hnone⟩ := hrefresh
  generalize restateRefresh v = w at *
  have hseat : w.seat = v.seat := by rw [hframe]
  unfold restateHold
  split
  next hspeaking =>
    refine ⟨?_, hnone, fun hsilent => ?_⟩
    · rw [hframe]
    · rw [hseat, hsilent] at hspeaking
      cases hspeaking
  next =>
    refine ⟨?_, hnone, fun _ => rfl⟩
    rw [hframe]

/-- R38: what restating every frame can move. -/
theorem restateAll_frame (hfree : u.sq.inFlight = none) :
    restateAll u = { u with
      seat := (restateAll u).seat
      sq := { u.sq with
        floor := (restateAll u).sq.floor, askref := (restateAll u).sq.askref, hold := (restateAll u).sq.hold }
      ownAsk := (restateAll u).ownAsk, st := { u.st with waitMeter := (restateAll u).st.waitMeter }
      gc := (restateAll u).gc, flash := (restateAll u).flash, outbox := (restateAll u).outbox } := by
  have hfloor := (restates_restateFloor hfree).frame
  obtain ⟨hslots, -, -⟩ := restateAll_slots u
  generalize restateFloor u = v at *
  generalize restateAll u = r at *
  rw [hslots, hfloor]

/-! ## The offer -/

theorem lowestOffer_eq_none {l : List Flight} (h : lowestOffer l = none) : l = [] := by
  cases l with
  | nil => rfl
  | cons x rest =>
    simp only [lowestOffer] at h
    split at h
    · cases h
    · split at h <;> cases h

/-- R39: the offer chosen is one of the frames, and none has a lower arbitration field. -/
theorem lowestOffer_eq_some {l : List Flight} (h : lowestOffer l = some fl) :
    fl ∈ l ∧ ∀ g ∈ l, fl.frame.arbitration ≤ g.frame.arbitration := by
  induction l generalizing fl with
  | nil => cases h
  | cons x rest ih =>
    simp only [lowestOffer] at h
    split at h
    next hnone =>
      cases h
      simp [lowestOffer_eq_none hnone]
    next y hy =>
      obtain ⟨hmem, hleast⟩ := ih hy
      split at h
      next hle =>
        cases h
        refine ⟨List.mem_cons_self, fun g hg => ?_⟩
        obtain rfl | hg := List.mem_cons.mp hg
        · exact le_rfl
        · exact hle.trans (hleast g hg)
      next hlt =>
        cases h
        refine ⟨List.mem_cons_of_mem _ hmem, fun g hg => ?_⟩
        obtain rfl | hg := List.mem_cons.mp hg
        · omega
        · exact hleast g hg

/-- R37, R39: what each slot offers. -/
theorem slot_of_offer (h : fl ∈ r.offers) :
    fl.slot = .order ∧ (∃ o, r.sq.order = some o ∧ fl.frame = r.ownFrame 0 (orderBody o.content r)) ∨
    fl.slot = .direct ∧ (∃ d, r.sq.direct.head? = some d ∧
      fl.frame = r.ownFrame 0 (.direct d.content.target d.content.action d.content.argument)) ∨
    fl.slot = .floor ∧ (∃ x, r.sq.floor = some x ∧ r.floorFrame x.content = some fl.frame) ∨
    fl.slot = .askref ∧ r.refreshFrame = some fl.frame ∨
    fl.slot = .hold ∧ r.holdFrame = some fl.frame := by
  have hone {slot : SlotId} {f : Option Frame}
      (hmem : fl ∈ (match f with | some f => [{ slot := slot, frame := f : Flight }] | none => [])) :
      fl.slot = slot ∧ f = some fl.frame := by
    cases f with
    | none => cases hmem
    | some f => simp [List.mem_singleton.mp hmem]
  unfold State.offers at h
  split at h
  · cases h
  simp only [List.mem_append] at h
  obtain (((h | h) | h) | h) | h := h
  · obtain ⟨hslot, hframe⟩ := hone h
    simp only [Option.map_eq_some_iff] at hframe
    obtain ⟨o, ho, hf⟩ := hframe
    exact .inl ⟨hslot, o, ho, hf.symm⟩
  · obtain ⟨hslot, hframe⟩ := hone h
    simp only [Option.map_eq_some_iff] at hframe
    obtain ⟨d, hd, hf⟩ := hframe
    exact .inr (.inl ⟨hslot, d, hd, hf.symm⟩)
  · obtain ⟨hslot, hframe⟩ := hone h
    simp only [Option.bind_eq_some_iff] at hframe
    exact .inr (.inr (.inl ⟨hslot, hframe⟩))
  · obtain ⟨hslot, hframe⟩ := hone h
    simp only [Option.bind_eq_some_iff] at hframe
    obtain ⟨-, -, hf⟩ := hframe
    exact .inr (.inr (.inr (.inl ⟨hslot, hf⟩)))
  · obtain ⟨hslot, hframe⟩ := hone h
    simp only [Option.bind_eq_some_iff] at hframe
    obtain ⟨-, -, hf⟩ := hframe
    exact .inr (.inr (.inr (.inr ⟨hslot, hf⟩)))

/-- R4, R38, R39: the state a start boundary leaves before its postings are taken. -/
theorem offerFrame_eq (s : State) (hr : restateAll { s with li := { s.li with idleCount := 10, dominantRun := 0 } } = r) :
    lowestOffer r.offers = none ∧ offerFrame s = r ∨
      ∃ fl, lowestOffer r.offers = some fl ∧ offerFrame s = launch fl r := by
  unfold offerFrame
  rw [hr]
  dsimp only
  split
  next fl hfl => exact .inr ⟨fl, hfl, rfl⟩
  next hnone => exact .inl ⟨hnone, rfl⟩

theorem flush_launch (fl : Flight) (r : State) :
    flush (launch fl r) = { flush r with sq := { r.sq with inFlight := some fl }, li := (launch fl r).li } := by
  unfold flush
  rw [show (launch fl r).outbox = r.outbox from rfl]
  split <;> rfl

end Sys2Proof.Instant
end

section

/-! A start boundary gives LI the restated frame of the lowest arbitration field (R3, R4, R22, R38, R39, R81), and a cleared line
does so too (R18, R19). -/

namespace Sys2Proof.Instant

open Sys2Proof Sys2Proof.Machine

-- One proof at a time: the text is compiled in bounded memory.
set_option Elab.async false

variable {s u r : State} {fl : Flight}

/-- R23: a frame of this station bears its role and its address. -/
theorem ownFrame_head {key : Nat} {b : Body} (hkey : key ≤ 65535) :
    (r.ownFrame key b).head.key.toNat = key ∧ (r.ownFrame key b).head.standing = r.role ∧
      (r.addr ≤ 1023 → (r.ownFrame key b).head.sender.toNat = r.addr) :=
  ⟨by simp [State.ownFrame]; omega, rfl, fun h => by simp [State.ownFrame]; omega⟩

/-- R23: every frame offered bears the station's role and address. -/
theorem offer_head (h : fl ∈ r.offers) :
    fl.frame.head.standing = r.role ∧ (r.addr ≤ 1023 → fl.frame.head.sender.toNat = r.addr) := by
  have hown {key : Nat} {b : Body} (hf : fl.frame = r.ownFrame key b) :
      fl.frame.head.standing = r.role ∧ (r.addr ≤ 1023 → fl.frame.head.sender.toNat = r.addr) := by
    rw [hf]
    exact ⟨rfl, fun h => by simp [State.ownFrame]; omega⟩
  obtain ⟨-, o, -, hf⟩ | ⟨-, d, -, hf⟩ | ⟨-, x, -, hf⟩ | ⟨-, hf⟩ | ⟨-, hf⟩ := slot_of_offer h
  · exact hown hf
  · exact hown hf
  · unfold State.floorFrame at hf
    split at hf
    · split at hf
      · exact hown (Option.some.inj hf).symm
      · cases hf
    · exact hown (Option.some.inj hf).symm
    · exact hown (Option.some.inj hf).symm
    · exact hown (Option.some.inj hf).symm
  · unfold State.refreshFrame at hf
    split at hf
    · exact hown (Option.some.inj hf).symm
    · cases hf
  · unfold State.holdFrame at hf
    split at hf
    · exact hown (Option.some.inj hf).symm
    · exact hown (Option.some.inj hf).symm
    · cases hf

theorem laneField_toNat (lane : Fin 8) : (BitVec.ofNat 3 lane.val).toNat = lane.val := by
  simp

theorem laneKey_toNat (lane : Fin 8) : (BitVec.ofNat 16 lane.val).toNat = lane.val := by
  simp
  omega

theorem orderBody_of_record {c : OrderSlot} (horder : r.order = s.order) (haddr : r.addr = s.addr) :
    orderBody c r = orderBody c s := by
  unfold orderBody
  rw [horder, haddr]

/-- Settles O15: every owner restates, and the offer of the lowest arbitration field is read slot by slot. -/
theorem startBoundaryOffersTheLowestFrame : Obligations.StartBoundaryOffersTheLowestFrame := by
  unfold Obligations.StartBoundaryOffersTheLowestFrame
  intro s r hs hstatus hfree hburst hrestart hr
  have hboundary : startBoundary s = checkRestart (offerFrame s) := by
    simp [startBoundary, hstatus, hfree, hburst]
  have hoffered := offerFrame_eq s hr.symm
  generalize hu : ({ s with li := { s.li with idleCount := 10, dominantRun := 0 } } : State) = u at hr
  have hufree : u.sq.inFlight = none := by rw [← hu]; exact hfree
  have hukept : u.flags = s.flags ∧ u.role = s.role ∧ u.addr = s.addr ∧ u.mark = s.mark ∧ u.sq = s.sq ∧
      u.order = s.order ∧ u.st = s.st ∧ u.li = { s.li with idleCount := 10, dominantRun := 0 } ∧
      u.viewTicks = s.viewTicks ∧ u.pp = s.pp ∧ u.ownAsk = s.ownAsk ∧ u.seat = s.seat ∧ u.outbox = [] := by
    rw [← hu]
    exact ⟨rfl, rfl, rfl, rfl, rfl, rfl, rfl, rfl, rfl, rfl, rfl, rfl, hs.2⟩
  obtain ⟨huflags, hurole, huaddr, humark, husq, huorder, hust, huli, huticks, hupp, huask, huseat, huout⟩ := hukept
  have hframe := restateAll_frame hufree
  obtain ⟨hslots, hrefresh, hhold⟩ := restateAll_slots u
  have hrestated := restates_restateFloor hufree
  rw [← hr] at hframe hslots hrefresh hhold
  have hfloorKept : r.sq.floor = (restateFloor u).sq.floor ∧ r.seat = (restateFloor u).seat ∧
      r.ownAsk = (restateFloor u).ownAsk := by
    rw [hslots]
    exact ⟨rfl, rfl, rfl⟩
  obtain ⟨hfloor, hseat, hask⟩ := hfloorKept
  have hkept : r.flags = s.flags ∧ r.role = s.role ∧ r.addr = s.addr ∧ r.mark = s.mark ∧ r.sq.order = s.sq.order ∧
      r.sq.direct = s.sq.direct ∧ r.order = s.order ∧ r.st.elapsed = s.st.elapsed ∧ r.sq.inFlight = none ∧
      r.li = { s.li with idleCount := 10, dominantRun := 0 } ∧ r.viewTicks = s.viewTicks ∧ r.pp = s.pp := by
    rw [hframe]
    exact ⟨huflags, hurole, huaddr, humark, by rw [husq], by rw [husq], huorder, by rw [hust], hufree, huli, huticks, hupp⟩
  obtain ⟨hflags, hrole, haddr, hmark, horder, hdirect, hrecord, helapsed, hrfree, hli, hticks, hpp⟩ := hkept
  have hrunning : r.flags.restartPending = false := hflags ▸ hrestart
  refine ⟨?_, ?_⟩
  · refine gives_of_event hs (f := startBoundary) rfl ?_
    rw [hboundary]
    obtain ⟨hnone, hoffer⟩ | ⟨fl, hfl, hoffer⟩ := hoffered
    · rw [hoffer, checkRestart_of_running hrunning]
      simp only [flush_keeps, hrfree, hli]
      exact ⟨lowestOffer_eq_none hnone, trivial, hstatus, trivial⟩
    · rw [hoffer, checkRestart_of_running (by exact hrunning), flush_launch]
      obtain ⟨hmem, hleast⟩ := lowestOffer_eq_some hfl
      obtain ⟨hstanding, hsender⟩ := offer_head hmem
      rw [hrole] at hstanding
      rw [haddr] at hsender
      dsimp only
      refine ⟨hmem, hleast, rfl, rfl, rfl, rfl, hstanding, hsender, ?_⟩
      obtain ⟨hslot, o, ho, hf⟩ | ⟨hslot, d, hd, hf⟩ | ⟨hslot, x, hx, hf⟩ | ⟨hslot, hf⟩ | ⟨hslot, hf⟩ := slot_of_offer hmem
      · rw [hslot]
        refine ⟨by rw [hf]; rfl, o, horder ▸ ho, ?_⟩
        rw [hf, ← orderBody_of_record hrecord haddr]
        rfl
      · rw [hslot, hf]
        exact ⟨rfl, d, hdirect ▸ hd, rfl⟩
      · rw [hslot]
        refine ⟨x, hx, ?_⟩
        unfold State.floorFrame at hf
        cases hcontent : x.content with
        | take =>
          rw [hcontent] at hf
          dsimp only at hf
          split at hf
          next k hseat =>
            rw [← Option.some.inj hf]
            exact ⟨k, by simpa using hseat, fun h => (ownFrame_head h).1, _, laneField_toNat k.lane, rfl⟩
          next => cases hf
        | ask =>
          have hbelow : s.mark < 65535 := humark ▸ mark_of_restated_ask (n := x.count) hufree
            ((hfloor.symm.trans hx).trans (by rw [← hcontent]))
          rw [hcontent] at hf
          rw [← Option.some.inj hf]
          exact ⟨by rw [hmark]; exact (ownFrame_head (by omega)).1, rfl⟩
        | yield lane reason =>
          rw [hcontent] at hf
          rw [← Option.some.inj hf]
          exact ⟨laneKey_toNat lane, _, _, laneField_toNat lane, rfl, by cases reason <;> rfl⟩
        | withdraw ticket reason =>
          rw [hcontent] at hf
          rw [← Option.some.inj hf]
          exact ⟨fun h => (ownFrame_head h).1, _, rfl, by cases reason <;> rfl⟩
      · rw [hslot]
        unfold State.refreshFrame at hf
        split at hf
        next ticket hlive =>
          rw [← Option.some.inj hf]
          refine ⟨ticket, ?_, fun h => (ownFrame_head h).1, rfl⟩
          obtain h | h | h := hrestated.ask
          · rw [← huask, ← h, ← hask, hlive]
          · simp [hask, h] at hlive
          · simp [hask, h] at hlive
        next => cases hf
      · rw [hslot]
        have hspeaking (o : OwnLane) (h : r.seat = .live o ∨ r.seat = .warned o) : s.seat = r.seat := by
          obtain hsame | hsilent := hrestated.seat
          · rw [hseat, hsame, huseat]
          · obtain h | h := h <;> simp [← hseat, h, Seat.speaking?] at hsilent
        unfold State.holdFrame at hf
        split at hf
        next o hlive =>
          rw [← Option.some.inj hf]
          refine ⟨o, BitVec.ofNat 16 r.st.elapsed, fun h => ?_, laneKey_toNat o.lane, .inl ⟨?_, rfl⟩⟩
          · rw [helapsed]
            simp
            omega
          · exact (hspeaking o (.inl hlive)).trans hlive
        next o hwarned =>
          rw [← Option.some.inj hf]
          refine ⟨o, BitVec.ofNat 16 r.st.elapsed, fun h => ?_, laneKey_toNat o.lane, .inr ⟨?_, rfl⟩⟩
          · rw [helapsed]
            simp
            omega
          · exact (hspeaking o (.inr hwarned)).trans hwarned
        next => cases hf
  · refine gives_of_event hs (f := startBoundary) rfl ?_
    rw [hboundary]
    have hafter : (flush (checkRestart (offerFrame s))).seat = r.seat ∧ (flush (checkRestart (offerFrame s))).ownAsk = r.ownAsk ∧
        (flush (checkRestart (offerFrame s))).flash = r.flash ∧
        (flush (checkRestart (offerFrame s))).sq.floor = r.sq.floor ∧
        (flush (checkRestart (offerFrame s))).sq.askref = r.sq.askref ∧
        (flush (checkRestart (offerFrame s))).sq.hold = r.sq.hold ∧
        (flush (checkRestart (offerFrame s))).pp = (flush r).pp := by
      obtain ⟨-, hoffer⟩ | ⟨fl, -, hoffer⟩ := hoffered
      · rw [hoffer, checkRestart_of_running hrunning]
        exact ⟨by simp, by simp, by simp, by simp, by simp, by simp, rfl⟩
      · rw [hoffer, checkRestart_of_running (by exact hrunning), flush_launch]
        exact ⟨by simp, by simp, by simp, rfl, rfl, rfl, rfl⟩
    obtain ⟨htseat, htask, htflash, htfloor, htaskref, hthold, htpp⟩ := hafter
    rw [htseat, htask, htflash, htfloor, htaskref, hthold, htpp, hfloor, hseat, hask]
    refine ⟨fun n hn hend => ?_, fun n hn hbelow => ?_, fun hnot => ?_, fun hsilent => ?_⟩
    · have hrestate := restateFloor_of_saturated (n := n) hufree (by rw [husq, hn]) (by rw [humark]; exact hend)
      have hflash : r.flash = (restateFloor u).flash ∧ r.outbox = (restateFloor u).outbox := by
        rw [hslots]
        exact ⟨rfl, rfl⟩
      obtain ⟨hrflash, hrout⟩ := hflash
      rw [hrflash]
      rw [hrestate] at hrout ⊢
      refine ⟨by simp, by simp, by simp, rfl, ?_⟩
      rw [flush_of_one (b := .sa) (e := .askRefused .saturated) (by rw [hrout]; simp [refuse, signalRefusal, huout])]
      simp [State.posting, hpp, hticks]
    · rw [restateFloor_of_room (n := n) (by rw [husq, hn]) (by rw [humark]; exact hbelow), husq, huseat, huask]
      exact ⟨rfl, rfl, rfl⟩
    · refine hrefresh fun t ht => ?_
      obtain h | h | h := hrestated.ask
      · exact hnot t (by rw [← huask, ← h, ht])
      · simp [h] at ht
      · simp [h] at ht
    · refine hhold ?_
      obtain h | h := hrestated.seat
      · rw [h, huseat, hsilent]
      · exact h

/-! ## The stuck line -/

/-- R2, R18: in STUCK the station drives nothing. -/
theorem flTx_of_stuck (hstatus : u.li.status = .stuck) (hburst : u.li.burstLeft = 0) : u.flTx = true := by
  simp [State.flTx, hstatus, hburst]

/-- R19: the station with the line free again. -/
def clearedLine (s : State) : State := { s with li := { s.li with status := .idle, idleCount := 10, dominantRun := 0 } }

theorem lineClear_of_stuck (hstatus : s.li.status = .stuck) :
    lineClear s = checkRestart (offerFrame (post .li .lineClear (clearedLine s))) := by
  simp only [lineClear, if_pos hstatus, clearedLine]

/-- R38: an idle queue has nothing to restate. -/
theorem restateAll_of_idle (hidle : u.sq.Idle) : restateAll u = u := by
  obtain ⟨-, -, hfloor, haskref, hhold⟩ := hidle
  have hslots : ({ u.sq with askref := none } : SendQ) = u.sq ∧ ({ u.sq with hold := none } : SendQ) = u.sq :=
    ⟨by rw [← haskref], by rw [← hhold]⟩
  obtain ⟨haskrefSlot, hholdSlot⟩ := hslots
  have hstill : restateFloor u = u := by simp [restateFloor, hfloor]
  have hrefresh : restateRefresh u = u := by
    unfold restateRefresh
    rw [haskrefSlot]
    split <;> rfl
  rw [restateAll, hstill, hrefresh]
  unfold restateHold
  rw [hholdSlot, ite_self]

/-- R38, R39: nor anything to offer. -/
theorem offerFrame_of_idle (hidle : u.sq.Idle) :
    offerFrame u = { u with li := { u.li with idleCount := 10, dominantRun := 0 } } := by
  unfold offerFrame
  rw [restateAll_of_idle (by exact hidle)]
  obtain ⟨horder, hdirect, hfloor, haskref, hhold⟩ := hidle
  have hnothing : State.offers { u with li := { u.li with idleCount := 10, dominantRun := 0 } } = [] := by
    unfold State.offers
    simp [horder, hdirect, hfloor, haskref, hhold]
  simp only [hnothing]
  rfl

/-- Settles O22: a stuck line ends an attempt as an uncounted one and drives nothing; a cleared one is a start boundary with
LINE_CLEAR posted ahead of what the owners post. -/
theorem stuckLineHoldsThePendingFrames : Obligations.StuckLineHoldsThePendingFrames := by
  unfold Obligations.StuckLineHoldsThePendingFrames
  intro s hs
  refine ⟨fun hstatus hfree => ?_, fun hstatus fl hflight hheld hrestart hlatch => ?_,
    fun hstatus hidle hrestart => ?_, fun hstatus hfree hrestart => ?_⟩
  · have heffect : lineStuck s = post .li .lineStuck { lineIdle s with
        li := { (lineIdle s).li with status := .stuck, dominantRun := 64, burstLeft := 0 } } := by
      simp only [lineStuck, if_neg hstatus, enterStuck, hfree]
    refine gives_of_event hs (f := lineStuck) rfl ?_
    rw [heffect, flush_post _ _ (by exact hs.2)]
    exact ⟨rfl, flTx_of_stuck rfl rfl⟩
  · have heffect : lineStuck s = keepPending fl.slot 0 (post .li .lineStuck { lineIdle s with
        li := { (lineIdle s).li with status := .stuck, dominantRun := 64, burstLeft := 0 } }) := by
      simp only [lineStuck, if_neg hstatus, enterStuck, hflight]
      rw [attemptStays_of_no_latch (by exact hrestart) (by exact hlatch)]
      exact checkRestart_of_running (by exact hrestart)
    refine gives_of_event hs (f := lineStuck) rfl ?_
    rw [heffect, keepPending_of_uncounted (by exact hheld)]
    exact ⟨by simp, flTx_of_stuck (by simp) (by simp), by simp⟩
  · have heffect : lineClear s = post .li .lineClear (clearedLine s) := by
      rw [lineClear_of_stuck hstatus, offerFrame_of_idle (by exact hidle)]
      exact checkRestart_of_running (by exact hrestart)
    refine gives_of_event hs (f := lineClear) rfl ?_
    rw [heffect, flush_post _ _ (by exact hs.2)]
    rfl
  · refine gives_of_event hs (f := lineClear) rfl ?_
    intro r
    have hcleared : restateAll (clearedLine s) = r := rfl
    clear_value r
    have hfreeLine : (clearedLine s).sq.inFlight = none := hfree
    have hframe := restateAll_frame hfreeLine
    obtain ⟨l, hl, hshort, hno⟩ := (restates_restateFloor hfreeLine).posts
    have hposted : r.outbox = l := by
      rw [← hcleared, (restateAll_slots (clearedLine s)).1]
      exact hl.trans (by rw [show (clearedLine s).outbox = [] from hs.2, List.nil_append])
    rw [hcleared] at hframe
    have hkept : r.flags = s.flags ∧ r.lanes = s.lanes ∧ r.window = s.window ∧ r.viewTicks = s.viewTicks ∧ r.pp = s.pp ∧
        r.sq.inFlight = none := by
      rw [hframe]
      exact ⟨rfl, rfl, rfl, rfl, rfl, hfree⟩
    obtain ⟨hflags, hlanes, hwindow, hticks, hpp, hrfree⟩ := hkept
    have hbehind : restateAll (post .li .lineClear (clearedLine s)) =
        behind [{ block := .li, event := .lineClear }] r := by
      rw [← hcleared, ← restateAll_behind _ hfreeLine]
      simp [behind, post, clearedLine, hs.2]
    have hmem (x : State) (hxout : x.outbox = { block := .li, event := .lineClear } :: l) (hxpp : x.pp = s.pp)
        (hxticks : x.viewTicks = s.viewTicks) (hroom : s.pp.events.length ≤ 13)
        (hclear : ∀ e ∈ s.pp.events, e.event ≠ .overrun) :
        { event := .lineClear, stamp := s.viewTicks : EventRec } ∈ (flush x).pp.events := by
      have hposts : s.Posts (flush x) (.lineClear :: l.map Posted.event) :=
        posts_of_perm (by simp [hxpp]) (by rw [hxout]; rfl)
      refine mem_of_posts hposts rfl List.mem_cons_self ?_ (by simp; omega) hclear (by simp [hxticks])
      simp only [List.mem_cons, List.mem_map, not_or, not_exists, not_and]
      exact ⟨by simp, fun p hp => hno p hp⟩
    rw [lineClear_of_stuck hstatus]
    obtain ⟨hnone, hoffer⟩ | ⟨fl, hfl, hoffer⟩ := offerFrame_eq (post .li .lineClear (clearedLine s)) hbehind
    · rw [hoffer, checkRestart_of_running (by exact hflags ▸ hrestart)]
      have hfreeAfter : (flush (behind [{ block := .li, event := .lineClear }] r)).sq.inFlight = none := by
        simp [behind, hrfree]
      rw [hfreeAfter]
      exact ⟨by simp [behind], by simp [behind], by simp [behind, hlanes], by simp [behind, hwindow],
        hmem (behind _ r) (by simp [behind, hposted]) hpp hticks, lowestOffer_eq_none hnone, by simp [behind], by simp [behind]⟩
    · rw [hoffer, checkRestart_of_running (by exact hflags ▸ hrestart)]
      have hflown : (flush (launch fl (behind [{ block := .li, event := .lineClear }] r))).sq.inFlight = some fl := by
        simp [launch]
      rw [hflown]
      obtain ⟨hoffered, hleast⟩ := lowestOffer_eq_some hfl
      exact ⟨by simp [launch, behind], by simp [launch, behind], by simp [launch, behind, hlanes],
        by simp [launch, behind, hwindow],
        hmem (launch fl (behind _ r)) (by simp [launch, behind, hposted]) hpp hticks, hoffered, hleast,
        by simp [launch, behind], by simp [launch], by simp [launch], by simp [launch]⟩

end Sys2Proof.Instant
end

section

/-! A completed TAKE and a completed ASK (R41, R54, R55, R82, R87, R120, R123, R136, R152, R157, R163). -/

namespace Sys2Proof.Instant

open Sys2Proof Sys2Proof.Machine

-- One proof at a time: the text is compiled in bounded memory.
set_option Elab.async false

variable {s u x : State} {h : Header}

/-! ## The completion of a FLOOR frame -/

/-- R14, R35, R41: the station after the slot of its own FLOOR frame, which has left its slot and been offered to the feed. -/
def sentFloor (f : Frame) (s : State) : State :=
  { s with
    li := s.li.afterSlot, pp := (offerFeed true f s).pp, sq := { s.sq with floor := none, inFlight := none } }

theorem offerFeed_takeOut_floor (f : Frame) (hheld : s.sq.floorHeld = none) :
    offerFeed true f (orderSent .floor (takeOut .floor (slotRecessive (lineIdle s)))) = sentFloor f s := by
  have hout : orderSent .floor (takeOut .floor (slotRecessive (lineIdle s))) =
      { s with li := s.li.afterSlot, sq := { s.sq with floor := none, inFlight := none } } := by
    simp [orderSent, takeOut, slotRecessive, lineIdle, LineIf.afterSlot, hheld]
  rw [hout]
  by_cases hon : s.pp.feedOn = true
  · by_cases hroom : s.pp.feed.length < 16 <;> simp [sentFloor, offerFeed, hon, hroom]
  · simp [sentFloor, offerFeed, hon]

theorem attemptCompleted_of_floor {f : Frame} (hflight : s.sq.inFlight = some { slot := .floor, frame := f })
    (hfault : s.li.bitFault = false) (hheld : s.sq.floorHeld = none) (hacts : actingFrame f = some f) :
    attemptCompleted s = checkRestart (signals (sentFloor f s) (ownerCompleted f
      (seatArrival f (sentFloor f s) (floorArrival true false f (sentFloor f s))))) := by
  have hoffered := offerFeed_takeOut_floor f hheld
  simp only [attemptCompleted, hflight, hfault, ownArrival, hoffered, hacts]
  rfl

theorem sentFloor_keeps (f : Frame) (s : State) :
    (sentFloor f s).pp.events = s.pp.events ∧ (sentFloor f s).pp.reading = s.pp.reading := by
  have hpp := offerFeed_pp true f s
  constructor
  · exact (congrArg PanelPort.events hpp :)
  · exact (congrArg PanelPort.reading hpp :)

/-! ## The floor after an own frame -/

/-- R83, R87: the Own Ask after an own TAKE: a LIVE one ends TAKEN. -/
def askTaken (u : State) : State :=
  match u.ownAsk with
  | .live _ => endOwnAsk .taken u
  | _ => u

theorem floorArrival_own_take (lane : BitVec 3) (displace muting : Bool) (u : State) :
    floorArrival true false { head := h, body := .take lane displace muting } u =
      askTaken (setWindow (removeAsker h.sender.toNat u.window)
        (raiseMark h.key.toNat (viewArrival { head := h, body := .take lane displace muting } u))) := by
  simp only [floorArrival, timerArrival, orderArrivalFO, lineArrival, askTaken, Bool.not_true, Bool.and_false,
    Bool.false_eq_true, if_false, raiseMark_window, viewArrival_keeps]
  split <;> split <;> simp_all

/-- What the end of a LIVE ask by an own TAKE changes. -/
theorem askTaken_fields (u : State) :
    (askTaken u).lanes = u.lanes ∧ (askTaken u).mutes = u.mutes ∧ (askTaken u).window = u.window ∧
      (askTaken u).mark = u.mark ∧ (askTaken u).order = u.order ∧
      (askTaken u).ownAsk = (match u.ownAsk with | .live _ => .none | o => o) ∧
      (askTaken u).st = { u.st with
        lastWait := match u.ownAsk with | .live _ => u.st.waitMeter | _ => u.st.lastWait
        waitMeter := match u.ownAsk with | .live _ => 0 | _ => u.st.waitMeter } ∧
      (askTaken u).outbox.map Posted.event =
        u.outbox.map Posted.event ++ (match u.ownAsk with | .live _ => [.askEnded .taken] | _ => []) := by
  unfold askTaken
  cases hask : u.ownAsk with
  | none => simp [hask]
  | pending => simp [hask]
  | live t => simp [endOwnAsk, hask]

theorem takeArrival_posts (lane : BitVec 3) (displace muting : Bool) (w : List Entry) (u : State) :
    (setWindow w (raiseMark h.key.toNat (viewArrival { head := h, body := .take lane displace muting } u))).outbox.map
        Posted.event = u.outbox.map Posted.event ++
      (lanePosts u.lanes (viewArrival { head := h, body := .take lane displace muting } u).lanes ++
        mutePosts u.mutes (viewArrival { head := h, body := .take lane displace muting } u).mutes ++
        linePosts u.window w) := by
  rw [setWindow_raiseMark_posts, viewArrival_posts]
  simp

/-- R54, R55, R62, R83, R87, R145: the floor after the own TAKE. -/
theorem ownTake_fields (lane : BitVec 3) (displace muting : Bool) (u : State)
    (hx : floorArrival true false { head := h, body := .take lane displace muting } u = x) :
    (∀ i : Fin 8, x.lanes[i] =
      if i = laneOf lane then
        .held { holder := h.sender.toNat, standing := h.standing, ticket := h.key.toNat, age := 0, silence := 0,
                muting := muting && decide (h.standing = .chair), warned := false }
      else if u.lanes[i].holder? = some h.sender.toNat then .free else u.lanes[i]) ∧
    x.mutes = (if h.standing = .chair then
        (if muting then muteJoin h.sender.toNat u.mutes else muteLeave h.sender.toNat u.mutes) else u.mutes) ∧
    x.mark = max u.mark h.key.toNat ∧ x.order = u.order ∧
    x.ownAsk = (match u.ownAsk with | .live _ => .none | o => o) ∧
    x.st = { u.st with
      lastWait := match u.ownAsk with | .live _ => u.st.waitMeter | _ => u.st.lastWait
      waitMeter := match u.ownAsk with | .live _ => 0 | _ => u.st.waitMeter
      phase := x.st.phase } ∧
    x.outbox.map Posted.event = u.outbox.map Posted.event ++
      (lanePosts u.lanes x.lanes ++ mutePosts u.mutes x.mutes ++ linePosts u.window x.window) ++
        (match u.ownAsk with | .live _ => [.askEnded .taken] | _ => []) := by
  rw [floorArrival_own_take] at hx
  have hposts := takeArrival_posts (h := h) lane displace muting (removeAsker h.sender.toNat u.window) u
  have hlanes := viewArrival_take_lanes (h := h) lane displace muting u
  have hmutes := viewArrival_take_mutes (h := h) lane displace muting u
  have hst := viewArrival_st { head := h, body := .take lane displace muting } u
  generalize hv : viewArrival { head := h, body := .take lane displace muting } u = v at *
  have hvkept : v.mark = u.mark ∧ v.order = u.order ∧ v.ownAsk = u.ownAsk := by
    rw [← hv]
    simp
  obtain ⟨hvmark, hvorder, hvask⟩ := hvkept
  generalize hw : setWindow (removeAsker h.sender.toNat u.window) (raiseMark h.key.toNat v) = w at *
  have hwkept : w.lanes = v.lanes ∧ w.mutes = v.mutes ∧ w.mark = max u.mark h.key.toNat ∧ w.order = u.order ∧
      w.ownAsk = u.ownAsk ∧ w.st = v.st ∧ w.window = removeAsker h.sender.toNat u.window := by
    rw [← hw]
    simp [hvmark, hvorder, hvask]
  obtain ⟨hwlanes, hwmutes, hwmark, hworder, hwask, hwst, hwwindow⟩ := hwkept
  obtain ⟨h1, h2, h3, h4, h5, h6, h7, h8⟩ := askTaken_fields w
  rw [hx] at h1 h2 h3 h4 h5 h6 h7 h8
  have hmeter : v.st.waitMeter = u.st.waitMeter ∧ v.st.lastWait = u.st.lastWait := by
    rw [hst]
    exact ⟨rfl, rfl⟩
  obtain ⟨hvmeter, hvlast⟩ := hmeter
  refine ⟨fun i => ?_, ?_, h4.trans hwmark, h5.trans hworder, ?_, ?_, ?_⟩
  · rw [h1, hwlanes]
    exact hlanes i
  · rw [h2, hwmutes]
    exact hmutes
  · rw [h6, hwask]
  · rw [h7, hwst, hwask, hvmeter, hvlast]
    rw [hst]
  · rw [h8, hposts, hwask, h1, h2, h3, hwlanes, hwmutes, hwwindow]

/-! ## The speech LIVE entry -/

/-- R136: the timer at a speech start. -/
def startedTimer (u : State) : SpeechTimer := (speechStart u).st

/-- R123, R136, R157, R159, R163: the station at a speech LIVE entry, with its muting flag as its PRIORITY key stands. -/
def liveEntry (o : OwnLane) (u : State) : State :=
  { u with
    seat := .live { o with muting := u.isChair && u.flags.priorityHeld }
    sq := { u.sq with
      hold := if u.isChair = true ∧ o.muting ≠ u.flags.priorityHeld then some (u.sq.hold.getD 0) else u.sq.hold }
    st := startedTimer u
    gc := { laneSel := o.lane, gateDelay := .running u.prof.gateDelay, spkMute := true, duckTail := .stopped }
    outbox := u.outbox ++ [{ block := .sa, event := .live o.lane }] }

theorem enterLive_eq {o : OwnLane} {m : Bool} (hmuting : o.muting = (u.isChair && m)) (hfree : u.sq.inFlight = none)
    (hrestart : u.flags.restartPending = false) : enterLive o u = releaseAtEntry o (liveEntry o u) := by
  have hsync : syncMuting o (gateSpeech o.lane (speechStart (post .sa (.live o.lane) { u with seat := .live o }))) =
      liveEntry o u := by
    unfold syncMuting
    have hkept : (gateSpeech o.lane (speechStart (post .sa (.live o.lane) { u with seat := .live o }))).isChair = u.isChair ∧
        (gateSpeech o.lane (speechStart (post .sa (.live o.lane) { u with seat := .live o }))).flags = u.flags := ⟨rfl, rfl⟩
    obtain ⟨hchair, hflags⟩ := hkept
    rw [hchair, hflags]
    by_cases hchanges : u.isChair = true ∧ o.muting ≠ u.flags.priorityHeld
    · rw [if_pos hchanges, placeHold_of_speaking rfl (by exact hrestart), if_neg (by
        simp [State.flying, gateSpeech, hfree])]
      have hchairSet : u.isChair = true := hchanges.1
      rw [liveEntry, if_pos hchanges, hchairSet]
      rfl
    · rw [if_neg hchanges]
      have hsame : ({ o with muting := u.isChair && u.flags.priorityHeld } : OwnLane) = o := by
        cases hrole : u.isChair with
        | false => rw [Bool.false_and, ← show o.muting = false by simpa [hrole] using hmuting]
        | true =>
          have hequal : o.muting = u.flags.priorityHeld := by simpa [hrole] using hchanges
          rw [Bool.true_and, ← hequal]
      rw [liveEntry, hsame, if_neg hchanges]
      rfl
  simp only [enterLive, hsync]

theorem startedTimer_eq (u : State) : startedTimer u = { u.st with
    speaking := true, elapsed := 0, correction := 0
    phase := if u.isDelegateSeat && decide (u.order.allowance ≠ 0) then
      (if u.muteActive then .paused .running else .counting .running) else .idle
    remaining := if u.isDelegateSeat && decide (u.order.allowance ≠ 0) then u.order.allowance * 10 else 0
    speechGrace := if u.isDelegateSeat && decide (u.order.allowance ≠ 0) then u.order.grace else 0 } := rfl

theorem releaseAtEntry_of_speaking {o : OwnLane} (h : o.tookBy = .voice → u.vu.release < u.prof.releaseHold) :
    releaseAtEntry o u = u :=
  if_neg fun ⟨hvoice, hheld⟩ => absurd (h hvoice) (by omega)

/-- R152: a talker already silent for the release hold at the entry yields the lane at once. -/
theorem releaseAtEntry_of_silent {o : OwnLane} (hvoice : o.tookBy = .voice) (hheld : u.prof.releaseHold ≤ u.vu.release)
    (hfree : u.sq.inFlight = none) :
    releaseAtEntry o (liveEntry o u) = { liveEntry o u with
      seat := .yielding { o with muting := u.isChair && u.flags.priorityHeld } .voice
      sq := { (liveEntry o u).sq with floor := some { content := .yield o.lane .voice, count := 0 } }
      st := { startedTimer u with
        lastSpeech := 0, speaking := false, phase := .idle, remaining := 0, speechGrace := 0, correction := 0, elapsed := 0 }
      gc := { laneSel := o.lane, gateDelay := .stopped, spkMute := true, duckTail := .stopped } } := by
  have hreleased : releaseAtEntry o (liveEntry o u) = yieldLane .voice (liveEntry o u) := by
    rw [releaseAtEntry, if_pos ⟨hvoice, hheld⟩]
    simp [voiceRelease, liveEntry, Seat.speaking?, hvoice]
  rw [hreleased, yieldLane_of_free (o := { o with muting := u.isChair && u.flags.priorityHeld }) _ rfl (by simp [State.flying, liveEntry, hfree])]
  simp [liveEntry, speechEnd, startedTimer_eq]

/-- R120: a TAKE completed with the latch set passes through LIVE into YIELDING. -/
theorem passThroughLive_eq {o : OwnLane} {c : Cause} (hfree : u.sq.inFlight = none) :
    passThroughLive o c u = { speechEnd u with
      seat := .yielding o (if c = .restart then .restart else .key), flags := { u.flags with cancelLatch := none }
      sq := { u.sq with
        floor := some { content := .yield o.lane (if c = .restart then .restart else .key), count := 0 } } } := by
  unfold passThroughLive
  dsimp only
  rw [placeFloor_of_free _ (by simp [State.flying, hfree])]
  rfl

/-! ## A completed TAKE -/

/-- What every completion of a TAKE leaves at the floor, and that the seat does not wait after it. -/
structure Took (u y : State) : Prop where
  lanes : y.lanes = u.lanes
  mutes : y.mutes = u.mutes
  window : y.window = u.window
  mark : y.mark = u.mark
  ownAsk : y.ownAsk = u.ownAsk
  order : y.order = u.order
  vu : y.vu = u.vu
  ticks : y.viewTicks = u.viewTicks
  lastWait : y.st.lastWait = u.st.lastWait
  waitMeter : y.st.waitMeter = u.st.waitMeter
  pp : y.pp = u.pp
  running : y.flags.restartPending = u.flags.restartPending
  moved : y.seat ≠ .waiting
  closed : y.seat.speaking? = none ∨ y.gc.gateDelay ≠ .expired

theorem took_liveEntry (o : OwnLane) (u : State) : Took u (liveEntry o u) :=
  ⟨rfl, rfl, rfl, rfl, rfl, rfl, rfl, rfl, rfl, rfl, rfl, rfl, by simp [liveEntry], .inr (by simp [liveEntry])⟩

theorem took_passThroughLive {o : OwnLane} {c : Cause} (hfree : u.sq.inFlight = none) : Took u (passThroughLive o c u) := by
  rw [passThroughLive_eq hfree]
  refine ⟨rfl, rfl, rfl, rfl, rfl, rfl, rfl, rfl, ?_, ?_, rfl, rfl, by simp, .inl rfl⟩
  · simp only [speechEnd]
    split <;> rfl
  · simp only [speechEnd]
    split <;> rfl

theorem took_releaseAtEntry {o : OwnLane} (hfree : u.sq.inFlight = none) : Took u (releaseAtEntry o (liveEntry o u)) := by
  by_cases hsilent : o.tookBy = .voice ∧ u.prof.releaseHold ≤ u.vu.release
  · rw [releaseAtEntry_of_silent hsilent.1 hsilent.2 hfree]
    exact ⟨rfl, rfl, rfl, rfl, rfl, rfl, rfl, rfl, rfl, rfl, rfl, rfl, by simp, .inl rfl⟩
  · rw [releaseAtEntry_of_speaking (u := liveEntry o u) fun hvoice => not_le.mp fun hheld => hsilent ⟨hvoice, hheld⟩]
    exact took_liveEntry o u

theorem releaseAtEntry_outbox (o : OwnLane) (u : State) :
    (releaseAtEntry o (liveEntry o u)).outbox = (liveEntry o u).outbox := by
  unfold releaseAtEntry
  split
  · simp
  · rfl

/-- R123: the lane the seat has taken. -/
def takenLane (k : IntendedTake) (lane : Fin 8) (muting : Bool) : OwnLane := { lane := lane, tookBy := k.kind, muting := muting }

/-- R120, R123: a completed TAKE, by the cancel latch. -/
theorem takeCompleted_of_latch {k : IntendedTake} {c : Cause} (lane : Fin 8) (muting : Bool) (hseat : u.seat = .taking k)
    (hlatch : u.flags.cancelLatch = some c) :
    takeCompleted lane muting u = passThroughLive (takenLane k lane (u.isChair && muting)) c u := by
  simp [takeCompleted, hseat, hlatch, takenLane]

theorem takeCompleted_of_no_latch {k : IntendedTake} (lane : Fin 8) (muting : Bool) (hseat : u.seat = .taking k)
    (hlatch : u.flags.cancelLatch = none) (hfree : u.sq.inFlight = none) (hrestart : u.flags.restartPending = false) :
    takeCompleted lane muting u =
      releaseAtEntry (takenLane k lane (u.isChair && muting)) (liveEntry (takenLane k lane (u.isChair && muting)) u) := by
  rw [← enterLive_eq (m := muting) rfl hfree hrestart]
  simp [takeCompleted, hseat, hlatch, takenLane]

theorem took_takeCompleted {k : IntendedTake} (lane : Fin 8) (muting : Bool) (hseat : u.seat = .taking k)
    (hfree : u.sq.inFlight = none) (hrestart : u.flags.restartPending = false) : Took u (takeCompleted lane muting u) := by
  cases hlatch : u.flags.cancelLatch with
  | none =>
    rw [takeCompleted_of_no_latch lane muting hseat hlatch hfree hrestart]
    exact took_releaseAtEntry hfree
  | some c =>
    rw [takeCompleted_of_latch lane muting hseat hlatch]
    exact took_passThroughLive hfree

theorem laneOf_ofNat (lane : Fin 8) : laneOf (BitVec.ofNat 3 lane.val) = lane := by
  apply Fin.ext
  simp [laneOf]

theorem gateOpen_of_closed (h : u.seat.speaking? = none ∨ u.gc.gateDelay ≠ .expired) : u.gateOpen = false := by
  obtain h | h := h <;> simp [State.gateOpen, h]

theorem muting_at_chair {m : Bool} {α : Type} {join leave keep : α} (hstanding : h.standing = s.role) :
    (if h.standing = .chair then (if (s.isChair && m) = true then join else leave) else keep) =
      if s.isChair = true then (if m = true then join else leave) else keep := by
  by_cases hc : s.role = .chair <;> simp [State.isChair, hstanding, hc]

/-- R136: the timer of a speech by its seat's role and the order's allowance. -/
theorem startedTimer_fields (hrole : u.role ≠ .listener) :
    (startedTimer u).speaking = true ∧ (startedTimer u).elapsed = 0 ∧ (startedTimer u).correction = 0 ∧
      ((startedTimer u).remaining = if u.isChair = true then 0 else u.order.allowance * 10) ∧
      ((startedTimer u).speechGrace = if u.isChair = true ∨ u.order.allowance = 0 then 0 else u.order.grace) ∧
      (startedTimer u).phase =
        (if u.isChair = true ∨ u.order.allowance = 0 then .idle
         else if u.mutes.isEmpty then .counting .running else .paused .running) := by
  have htimed : u.isDelegateSeat = !u.isChair := by
    cases hr : u.role <;> simp_all [State.isDelegateSeat, State.isChair]
  rw [startedTimer_eq, htimed]
  refine ⟨rfl, rfl, rfl, ?_, ?_, ?_⟩ <;> cases hc : u.isChair <;> by_cases ha : u.order.allowance = 0 <;>
    simp [ha, State.muteActive]

/-- Settles O20: the floor learns the own TAKE as it learns another's, and the seat's entry follows the cancel latch. -/
theorem completedTakeStartsTheSpeech : Obligations.CompletedTakeStartsTheSpeech := by
  unfold Obligations.CompletedTakeStartsTheSpeech
  intro k h m s hs hseat hrestart hfault hrole hsender hlow hhigh hstanding hheld hflight
  generalize hf : ({ head := h, body := .take (BitVec.ofNat 3 k.lane.val) k.displace (s.isChair && m) } : Frame) = f at hflight
  have hchair : (s.isChair && m && decide (h.standing = .chair)) = (s.isChair && m) := by
    rw [hstanding]
    cases hc : s.isChair with
    | false => rfl
    | true => simp [of_decide_eq_true (show decide (s.role = .chair) = true from hc)]
  have hacts : actingFrame f = some f := by
    refine Kept.actingFrame_eq_some_iff.mpr ⟨?_, ?_, ?_⟩
    · rw [← hf]
      simp [headPasses, validAddress, hsender, hlow, hhigh, hstanding, hrole]
    · rw [← hf]
      rfl
    · rw [← hf]
      simp only [clampBody, hchair]
  refine gives_of_event hs (f := attemptCompleted) rfl ?_
  rw [attemptCompleted_of_floor hflight hfault hheld hacts]
  obtain ⟨hlanes, hmutes, hmark, horder, hask, hst, hposts⟩ := ownTake_fields (h := h) (BitVec.ofNat 3 k.lane.val) k.displace
    (s.isChair && m) (sentFloor f s) rfl
  rw [hf] at hlanes hmutes hmark horder hask hst hposts
  obtain ⟨hevents, hreading⟩ := sentFloor_keeps f s
  generalize hx : floorArrival true false f (sentFloor f s) = x at *
  have hkept : x.addr = s.addr ∧ x.seat = .taking k ∧ x.flags = s.flags ∧ x.role = s.role ∧ x.profile = s.profile ∧
      x.vu = s.vu ∧ x.gc = s.gc ∧ x.sq = { s.sq with floor := none, inFlight := none } ∧ x.viewTicks = s.viewTicks ∧
      x.pp.events = s.pp.events ∧ x.pp.reading = s.pp.reading := by
    rw [← hx]
    simp only [floorArrival_keeps]
    exact ⟨rfl, hseat, rfl, rfl, rfl, rfl, rfl, rfl, rfl, hevents, hreading⟩
  obtain ⟨hxaddr, hxseat, hxflags, hxrole, hxprofile, hxvu, hxgc, hxsq, hxticks, hxevents, hxreading⟩ := hkept
  have hxfree : x.sq.inFlight = none := by rw [hxsq]
  have hxrestart : x.flags.restartPending = false := hxflags ▸ hrestart
  have hxchair : x.isChair = s.isChair := by simp [State.isChair, hxrole]
  have hown : seatArrival f (sentFloor f s) x = x := by
    rw [← hf]
    simp [seatArrival, hsender, hxaddr]
  have hcompleted : ownerCompleted f x = takeCompleted k.lane (s.isChair && m) x := by
    rw [← hf]
    simp only [ownerCompleted, laneOf_ofNat]
  have htook := took_takeCompleted (u := x) k.lane (s.isChair && m) hxseat hxfree hxrestart
  have hmuting : (x.isChair && (s.isChair && m)) = (s.isChair && m) := by
    rw [hxchair, ← Bool.and_assoc, Bool.and_self]
  rw [hown, hcompleted, signals_of_not_waiting htook.moved, checkRestart_of_running (htook.running.trans hxrestart)]
  generalize hy : takeCompleted k.lane (s.isChair && m) x = y at htook ⊢
  have hlatched {c : Cause} (hlatch : s.flags.cancelLatch = some c) :
      y = passThroughLive (takenLane k k.lane (s.isChair && m)) c x := by
    rw [← hy, takeCompleted_of_latch _ _ hxseat (by rw [hxflags, hlatch]), hmuting]
  have hfreely (hlatch : s.flags.cancelLatch = none) : y =
      releaseAtEntry (takenLane k k.lane (s.isChair && m)) (liveEntry (takenLane k k.lane (s.isChair && m)) x) := by
    rw [← hy, takeCompleted_of_no_latch _ _ hxseat (by rw [hxflags, hlatch]) hxfree hxrestart, hmuting]
  have hout : y.outbox.map Posted.event =
      x.outbox.map Posted.event ++ if s.flags.cancelLatch = none then [.live k.lane] else [] := by
    cases hlatch : s.flags.cancelLatch with
    | none =>
      rw [hfreely hlatch, releaseAtEntry_outbox]
      simp [liveEntry, takenLane]
    | some c =>
      rw [hlatched hlatch, passThroughLive_eq hxfree]
      simp
  refine ⟨fun i => ?_, ?_, ?_, ?_, ?_, ?_, ?_, ?_, ?_, ?_, fun latch hlatch _ => ?_, fun hlatch hvoice hsilent => ?_,
    fun hlatch hspeaks => ?_, fun c hlatch hc => ?_⟩
  · rw [← hchair, ← hsender, ← hstanding, ← laneOf_ofNat k.lane]
    simp only [flush_keeps, htook.lanes]
    exact hlanes i
  · simp only [flush_keeps, htook.mutes, hmutes, hsender]
    exact muting_at_chair hstanding
  · exact gateOpen_of_closed (by simpa using htook.closed)
  · simp only [flush_keeps, htook.mark]
    exact hmark
  · simp only [flush_keeps, htook.ownAsk]
    exact hask
  · simp only [flush_keeps, htook.lastWait]
    rw [hst]
    rfl
  · simp only [flush_keeps, htook.waitMeter]
    rw [hst]
    rfl
  · simp only [flush_keeps, htook.order]
    exact horder
  · simpa [htook.vu] using hxvu
  · simpa [htook.ticks] using hxticks
  · refine posts_of_perm (by rw [htook.pp]; exact ⟨hxevents, hxreading⟩) (.of_eq ?_)
    rw [hout, hposts, floorEvents_eq, hlatch]
    simp only [flush_keeps, htook.lanes, htook.mutes, htook.window, htook.vu, hxvu, trimPosts_self, List.append_nil]
    rw [show (sentFloor f s).outbox = [] from hs.2]
    rfl
  · rw [hfreely hlatch, releaseAtEntry_of_silent hvoice (by rw [State.prof, hxprofile, hxvu]; exact hsilent) hxfree]
    simp only [flush_keeps, liveEntry, takenLane, hxchair, hxflags, hxfree, hvoice]
    exact ⟨trivial, trivial, trivial, trivial, trivial, trivial, trivial⟩
  · rw [hfreely hlatch, releaseAtEntry_of_speaking (u := liveEntry _ x) fun hvoice => by
      rw [show (liveEntry _ x).vu = s.vu from hxvu, State.prof, show (liveEntry _ x).profile = s.profile from hxprofile]
      exact hspeaks hvoice]
    simp only [flush_keeps, liveEntry, takenLane, hxchair, hxflags, hxsq]
    have htimer := startedTimer_fields (u := x) (hxrole ▸ hrole)
    obtain ⟨hspeaking, helapsed, hcorrection, hremaining, hgrace, hphase⟩ := htimer
    rw [hxchair, show x.order = s.order from horder] at hremaining hgrace hphase
    refine ⟨trivial, ?_, ⟨hspeaking, helapsed, hcorrection, hremaining, hgrace, ?_⟩, by rw [State.prof, hxprofile]; rfl, trivial⟩
    · cases hc : s.isChair <;> simp
    · rw [hphase]
      cases hc : s.isChair with
      | true => simp
      | false =>
        have hsame : x.mutes = s.mutes := by
          rw [hmutes, if_neg (by simpa [State.isChair, hstanding] using hc)]
          rfl
        rw [hsame]
  · rw [hlatched hlatch, passThroughLive_eq hxfree, if_neg hc]
    simp only [flush_keeps, takenLane, hxflags, hxsq, speechEnd, hxgc]
    refine ⟨trivial, trivial, trivial, trivial, fun hquiet => ?_⟩
    have hxquiet : x.st.speaking = false ∧ x.st.elapsed = s.st.elapsed := by
      rw [hst]
      exact ⟨hquiet, rfl⟩
    obtain ⟨hxspeaking, hxelapsed⟩ := hxquiet
    rw [hxspeaking, if_neg (by simp)]
    exact ⟨hxspeaking, hxelapsed⟩

end Sys2Proof.Instant
end

section

/-! A completed ASK (R41, R82, R83, R113, R120, R145, R156). -/

namespace Sys2Proof.Instant

open Sys2Proof Sys2Proof.Machine

-- One proof at a time: the text is compiled in bounded memory.
set_option Elab.async false

variable {s u : State} {h : Header}

theorem floorArrival_own_ask {refresh : Bool} (hown : h.sender.toNat = u.addr) :
    floorArrival true false { head := h, body := .ask refresh } u = raiseMark h.key.toNat u := by
  simp [floorArrival, viewArrival, lineArrival, timerArrival, orderArrivalFO, hown]

/-- R82, R145: the seat that waits with its ticket. -/
def waitingLive (ticket : Nat) (u : State) : State := { askLive ticket u with seat := .waiting }

theorem askCompleted_of_no_latch {ticket : Nat} (hseat : u.seat = .asking) (hlatch : u.flags.cancelLatch = none) :
    askCompleted ticket u = evaluate (waitingLive ticket u) := by
  simp [askCompleted, hseat, hlatch, waitingLive]

/-- R120: a cancelled ASK that completes becomes a WITHDRAW of its ticket. -/
theorem askCompleted_of_latch {ticket : Nat} {c : Cause} (hseat : u.seat = .asking) (hlatch : u.flags.cancelLatch = some c)
    (hc : c ≠ .restart) (hask : u.ownAsk = .pending) (hfree : u.sq.inFlight = none) :
    askCompleted ticket u = post .rl (.askEnded .withdrawn) { u with
      seat := .idle, ownAsk := .none, st := { u.st with waitMeter := 0 }, flags := { u.flags with cancelLatch := none }
      sq := { u.sq with floor := some { content := .withdraw ticket c, count := 0 } } } := by
  simp [askCompleted, hseat, hlatch, hc, endOwnAsk, hask, placeFloor, State.flying, hfree, enterIdle, Seat.own?, post]

/-- R120: however it was cancelled, the seat leaves the line and the floor stands. -/
theorem askCompleted_of_cancel {ticket : Nat} {c : Cause} (hseat : u.seat = .asking) (hlatch : u.flags.cancelLatch = some c) :
    (askCompleted ticket u).seat = .idle ∧
      (askCompleted ticket u).flags = { u.flags with cancelLatch := none } ∧
      (askCompleted ticket u).mark = u.mark ∧ (askCompleted ticket u).window = u.window ∧
      (askCompleted ticket u).lanes = u.lanes ∧ (askCompleted ticket u).order = u.order := by
  simp [askCompleted, hseat, hlatch]

/-- Settles O21: a completed ASK raises the Mark and fixes the ticket; the seat evaluates, or takes the ask out again. -/
theorem completedAskFixesItsTicket : Obligations.CompletedAskFixesItsTicket := by
  unfold Obligations.CompletedAskFixesItsTicket
  intro c h s hs hseat hrestart hfault hask hsender hlow hhigh hdelegate hstanding hkey hheld hc hflight
  generalize hf : ({ head := h, body := .ask false } : Frame) = f at hflight
  have hacts : actingFrame f = some f := by
    have hrole : s.role ≠ .listener ∧ s.role ≠ .chair := by
      obtain hr | hr := (show s.role = .priority ∨ s.role = .delegate by simpa [State.isDelegateSeat] using hdelegate) <;>
        simp [hr]
    obtain ⟨hlistener, hchair⟩ := hrole
    have hticket : h.key ≠ 0 := fun h0 => by simp [h0] at hkey
    refine Kept.actingFrame_eq_some_iff.mpr ⟨?_, ?_, ?_⟩
    · rw [← hf]
      simp [headPasses, validAddress, hsender, hlow, hhigh, hstanding, hlistener, hchair]
    · rw [← hf]
      exact decide_eq_true hticket
    · rw [← hf]
      rfl
  refine gives_of_event hs (f := attemptCompleted) rfl ?_
  rw [attemptCompleted_of_floor hflight hfault hheld hacts]
  have hfloor : floorArrival true false f (sentFloor f s) = raiseMark h.key.toNat (sentFloor f s) := by
    rw [← hf]
    exact floorArrival_own_ask hsender
  rw [hfloor]
  obtain ⟨hevents, hreading⟩ := sentFloor_keeps f s
  have hseatPart (v : State) : seatArrival f (sentFloor f s) v = v := by rw [← hf]; rfl
  have hcompleted (v : State) : ownerCompleted f v = askCompleted h.key.toNat v := by rw [← hf]; rfl
  rw [hseatPart, hcompleted]
  generalize hx : raiseMark h.key.toNat (sentFloor f s) = x
  have hkept : x.seat = .asking ∧ x.flags = s.flags ∧ x.ownAsk = .pending ∧
      x.sq = { s.sq with floor := none, inFlight := none } ∧ x.lanes = s.lanes ∧ x.window = s.window ∧
      x.mutes = s.mutes ∧ x.order = s.order ∧ x.vu = s.vu ∧ x.st = s.st ∧ x.mark = max s.mark h.key.toNat ∧
      x.outbox = [] ∧ x.pp.events = s.pp.events ∧ x.pp.reading = s.pp.reading := by
    rw [← hx]
    exact ⟨hseat, rfl, hask, rfl, rfl, rfl, rfl, rfl, rfl, rfl, rfl, hs.2, hevents, hreading⟩
  obtain ⟨hxseat, hxflags, hxask, hxsq, hxlanes, hxwindow, hxmutes, hxorder, hxvu, hxst, hxmark, hxout, hxevents,
    hxreading⟩ := hkept
  cases hlatch : s.flags.cancelLatch with
  | some latch =>
    obtain ⟨hyseat, hyflags, hymark, hywindow, hylanes, hyorder⟩ :=
      askCompleted_of_cancel (ticket := h.key.toNat) hxseat (by rw [hxflags, hlatch])
    have hquiet : signals (sentFloor f s) (askCompleted h.key.toNat x) = askCompleted h.key.toNat x :=
      signals_of_not_waiting (by rw [hyseat]; simp)
    rw [hquiet, checkRestart_of_running (by rw [hyflags, hxflags]; exact hrestart)]
    refine ⟨by simp [hymark, hxmark], by simp [hywindow, hxwindow], by simp [hylanes, hxlanes], by simp [hyorder, hxorder],
      fun h => by simp at h, fun hsame => ?_, fun h => by simp at h, fun h => by simp at h, fun hsame => ?_⟩
    · rw [askCompleted_of_latch (c := c) hxseat (by rw [hxflags, hlatch, hsame]) hc hxask (by rw [hxsq])]
      exact posts_of_perm ⟨hxevents, hxreading⟩ (.of_eq (by simp [hxout]))
    · rw [askCompleted_of_latch (c := c) hxseat (by rw [hxflags, hlatch, hsame]) hc hxask (by rw [hxsq])]
      simp [hxflags, hxsq]
  | none =>
    rw [askCompleted_of_no_latch hxseat (by rw [hxflags, hlatch])]
    generalize hw : waitingLive h.key.toNat x = w
    have hwkept : w.seat = .waiting ∧ w.flags = s.flags ∧ w.ownAsk = .live h.key.toNat ∧ w.sq = x.sq ∧ w.lanes = s.lanes ∧
        w.window = s.window ∧ w.mutes = s.mutes ∧ w.order = s.order ∧ w.vu = s.vu ∧
        w.st = { s.st with waitMeter := 0 } ∧ w.mark = max s.mark h.key.toNat ∧
        w.outbox.map Posted.event = [.askLive h.key.toNat] ∧ w.pp.events = s.pp.events ∧ w.pp.reading = s.pp.reading := by
      rw [← hw]
      refine ⟨rfl, hxflags, rfl, rfl, hxlanes, hxwindow, hxmutes, hxorder, hxvu, ?_, hxmark, ?_, hxevents, hxreading⟩
      · simp [waitingLive, askLive, hxst]
      · simp [waitingLive, askLive, hxout]
    obtain ⟨hwseat, hwflags, hwask, hwsq, hwlanes, hwwindow, hwmutes, hworder, hwvu, hwst, hwmark, hwout, hwevents,
      hwreading⟩ := hwkept
    have hstill : signals (sentFloor f s) (evaluate w) = evaluate w :=
      signals_of_same (by simp [hwlanes, sentFloor]) (by simp [hwwindow, sentFloor]) (by simp [hworder, sentFloor])
    rw [hstill, checkRestart_of_running (by simp [hwflags, hrestart])]
    have hevaluated := evaluated_flush (evaluate_evaluated hwseat hwask (by rw [hwflags, hrestart])
      (by simp [State.flying, hwsq, hxsq]))
    rw [show w.sq.floor = none by rw [hwsq, hxsq]] at hevaluated
    have hposts : s.Posts (flush (evaluate w)) (.askLive h.key.toNat :: s.floorEvents (flush (evaluate w))) := by
      refine posts_of_perm (by simp [hwevents, hwreading]) (.of_eq ?_)
      rw [evaluate_posts, hwout, floorEvents_eq, hwvu]
      simp [hwlanes, hwwindow, hwmutes]
    refine ⟨by simp [hwmark], by simp [hwwindow], by simp [hwlanes], by simp [hworder], fun _ => hposts, fun h => by simp at h,
      fun _ hmode => ?_, fun _ hmode => ⟨by simp [hwask], by simp [hwst], hevaluated⟩, fun h => by simp at h⟩
    have hnothing : evaluate w = w := by
      unfold evaluate
      simp [State.selfTake?, hwask, hworder, hmode]
    rw [hnothing]
    simp [hwseat, hwask, hwst, hwsq, hxsq]

end Sys2Proof.Instant
end

section

/-! No step leaves the conditions of a restart's completion standing (R132). -/

namespace Sys2Proof.Instant

open Sys2Proof Sys2Proof.Machine

-- One proof at a time: the text is compiled in bounded memory.
set_option Elab.async false

variable {s t u : State}

/-- R132: the conditions of a restart's completion do not come about between two states. -/
def Waits (s t : State) : Prop := s.restartDone = false → t.restartDone = false

theorem Waits.refl (s : State) : Waits s s := id

theorem Waits.trans (h : Waits s t) (k : Waits t u) : Waits s u := fun hs => k (h hs)

/-- R132: the conditions are read from the restart's flag, the frame in flight and the FLOOR slot. -/
theorem waits_of_same (h : t.flags.restartPending = s.flags.restartPending ∧ t.sq.inFlight = s.sq.inFlight ∧
    t.sq.floor = s.sq.floor ∧ t.sq.floorHeld = s.sq.floorHeld) : Waits s t := by
  obtain ⟨hflag, hflight, hfloor, hheld⟩ := h
  intro hs
  rwa [State.restartDone, hflag, hflight, hfloor, hheld]

theorem Waits.after (k : Waits t u) (h : t.flags.restartPending = s.flags.restartPending ∧ t.sq.inFlight = s.sq.inFlight ∧
    t.sq.floor = s.sq.floor ∧ t.sq.floorHeld = s.sq.floorHeld) : Waits s u := (waits_of_same h).trans k

theorem waits_of_running (h : t.flags.restartPending = false) : Waits s t := fun _ => by simp [State.restartDone, h]

/-- What the Seat Agent does in no wait of a restart brings none about. -/
theorem waits_of_guard (hflag : t.flags.restartPending = s.flags.restartPending)
    (hguard : s.flags.restartPending = true → t = s) : Waits s t := by
  cases hs : s.flags.restartPending with
  | true =>
    rw [hguard hs]
    exact .refl s
  | false => exact waits_of_running (hflag.trans hs)

/-- A FLOOR frame that is placed is waited for. -/
theorem waits_placeFloor (c : FloorFrame) (u : State) : Waits s (placeFloor c u) := by
  intro _
  unfold placeFloor
  split <;> simp [State.restartDone]

theorem waits_checkRestart (u : State) : Waits s (checkRestart u) := by
  intro _
  unfold checkRestart
  split
  · rfl
  · simp_all

theorem waits_flush (u : State) : Waits u (flush u) := waits_of_same (by simp)

/-! ## The seat -/

theorem waits_beginTake (k : IntendedTake) (u : State) : Waits s (beginTake k u) := waits_placeFloor _ _

theorem waits_yieldLane (r : YieldReason) (u : State) : Waits u (yieldLane r u) := by
  unfold yieldLane
  split
  · exact .refl u
  · exact waits_placeFloor _ _

theorem waits_askNew (u : State) : Waits u (askNew u) := by
  unfold askNew
  split
  · exact waits_of_same (by simp)
  · split
    · exact waits_of_same (by simp)
    · exact waits_placeFloor _ _

theorem waits_carryOut (k : TakeKind) (d : Decision) (u : State) : Waits u (carryOut k d u) := by
  cases d with
  | take lane displace => exact waits_beginTake _ u
  | ask => exact waits_askNew u
  | noLane => exact waits_of_same (by simp [carryOut])
  | nothing => exact waits_of_same ⟨rfl, rfl, rfl, rfl⟩

theorem waits_evaluate (u : State) : Waits u (evaluate u) :=
  waits_of_guard (by simp) fun h => if_neg (by simp [h])

theorem waits_voiceAttack (u : State) : Waits u (voiceAttack u) :=
  waits_of_guard (by simp) fun h => if_neg (by simp [h])

theorem waits_voiceRelease (u : State) : Waits u (voiceRelease u) := by
  unfold voiceRelease
  split
  · split
    · exact waits_yieldLane _ u
    · exact .refl u
  · exact .refl u

theorem waits_placeHold (u : State) : Waits u (placeHold u) := by
  rw [placeHold_eq]
  exact waits_of_same ⟨rfl, rfl, rfl, rfl⟩

/-! ## Ticks and samples -/

theorem waits_countSpeech (u : State) : Waits u (countSpeech u) := by
  have hexpire (v : State) : Waits v (expire v) := by
    unfold expire
    split
    · exact .refl v
    · split
      · unfold seatWarning
        split
        · exact Waits.after (waits_placeHold _) ⟨rfl, rfl, rfl, rfl⟩
        · exact waits_of_same ⟨rfl, rfl, rfl, rfl⟩
      · exact waits_yieldLane _ v
    · exact waits_yieldLane _ v
  unfold countSpeech
  split
  · exact .refl u
  · dsimp only
    split
    · exact Waits.after (hexpire _) ⟨rfl, rfl, rfl, rfl⟩
    · split
      · unfold seatLift
        split
        · exact Waits.after (waits_placeHold _) ⟨rfl, rfl, rfl, rfl⟩
        · exact waits_of_same ⟨rfl, rfl, rfl, rfl⟩
      · exact waits_of_same ⟨rfl, rfl, rfl, rfl⟩

theorem waits_speechTick (u : State) : Waits u (speechTick u) := by
  unfold speechTick
  split
  · exact Waits.after (waits_countSpeech _) ⟨rfl, rfl, rfl, rfl⟩
  · exact .refl u

theorem waits_speechExpiry (u : State) : Waits u (speechExpiry u) := by
  unfold speechExpiry
  split
  · exact waits_countSpeech u
  · exact .refl u

theorem waits_countAttack (u : State) : Waits u (countAttack u) := by
  have hattack (v : State) : Waits v (attackDone v) := by
    unfold attackDone
    split
    · exact .refl v
    · dsimp only
      split
      · exact Waits.after (waits_voiceAttack _) ⟨rfl, rfl, rfl, rfl⟩
      · exact waits_of_same ⟨rfl, rfl, rfl, rfl⟩
  unfold countAttack
  dsimp only
  split
  · exact Waits.after (hattack _) ⟨rfl, rfl, rfl, rfl⟩
  · exact waits_of_same ⟨rfl, rfl, rfl, rfl⟩

theorem waits_countRelease (u : State) : Waits u (countRelease u) := by
  unfold countRelease
  dsimp only
  split
  · exact Waits.after (waits_voiceRelease _) ⟨rfl, rfl, rfl, rfl⟩
  · exact waits_of_same ⟨rfl, rfl, rfl, rfl⟩

theorem waits_moveTrim (u : State) : Waits u (moveTrim u) := by
  unfold moveTrim
  split
  · exact .refl u
  · dsimp only
    split <;> exact waits_of_same ⟨rfl, rfl, rfl, rfl⟩

theorem waits_levelSample (x : BitVec 8) (u : State) : Waits u (levelSample x u) := by
  have hcounters (v : State) : Waits v (moveCounters v) := by
    unfold moveCounters
    split
    · exact waits_of_same ⟨rfl, rfl, rfl, rfl⟩
    · split
      · exact waits_countAttack v
      · split
        · exact waits_of_same ⟨rfl, rfl, rfl, rfl⟩
        · exact waits_countRelease v
  exact Waits.after ((hcounters _).trans (waits_moveTrim _)) ⟨rfl, rfl, rfl, rfl⟩

theorem waits_attackCompletion (u : State) : Waits u (attackCompletion u) := by
  unfold attackCompletion
  split
  · exact waits_countAttack u
  · exact .refl u

theorem waits_releaseCompletion (u : State) : Waits u (releaseCompletion u) := by
  unfold releaseCompletion
  split
  · exact waits_countRelease u
  · exact .refl u

theorem waits_trimCompletion (u : State) : Waits u (trimCompletion u) := by
  unfold trimCompletion
  split
  · split
    · exact waits_moveTrim u
    · exact .refl u
  · exact .refl u

theorem waits_tickRepeat (u : State) : Waits u (tickRepeat u) := by
  rw [tickRepeat_slots]
  exact waits_of_same ⟨rfl, rfl, rfl, rfl⟩

theorem waits_endSettling (u : State) : Waits u (endSettling u) := by
  have hsettled : Waits u (settled u) := by
    rw [(settled_eq u).1]
    exact waits_of_same ⟨rfl, rfl, rfl, rfl⟩
  rw [endSettling_eq]
  split
  · exact hsettled.trans (waits_carryOut _ _ _)
  · exact hsettled

theorem waits_viewTick (u : State) : Waits u (viewTick u) := by
  have hfloor : Waits u (viewTickLine (viewTickView u)) := waits_of_same (by simp [tickFloor_sq])
  have hsettling (v : State) : Waits v (tickSettling v) := by
    unfold tickSettling
    split
    · split
      · exact waits_of_same ⟨rfl, rfl, rfl, rfl⟩
      · exact waits_endSettling v
    · exact .refl v
  exact (((hfloor.trans (waits_tickRepeat _)).trans (waits_placeHold _)).trans (hsettling _)).trans (waits_evaluate _)

theorem waits_settlingEnd (u : State) : Waits u (settlingEnd u) := by
  unfold settlingEnd
  split
  · split
    · exact waits_endSettling u
    · exact .refl u
  · exact .refl u

theorem waits_orderRepeat (u : State) : Waits u (orderRepeat u) := by
  unfold orderRepeat
  split
  · exact waits_tickRepeat u
  · exact .refl u

theorem waits_laneLapse (i : Fin 8) (u : State) : Waits u (laneLapse i u) := by
  unfold laneLapse
  split
  · split
    · exact Waits.after (waits_evaluate _) (by simp)
    · exact .refl u
  · exact .refl u

theorem waits_muteSourceLapse (chair : Nat) (u : State) : Waits u (muteSourceLapse chair u) := by
  unfold muteSourceLapse
  split
  · exact waits_of_same (by simp)
  · exact .refl u

theorem waits_lineEntryLapse (asker : Nat) (u : State) : Waits u (lineEntryLapse asker u) := by
  unfold lineEntryLapse
  split
  · exact Waits.after (waits_evaluate _) (by simp)
  · exact .refl u

/-! ## The keys -/

/-- R132: a key sets no restart up and completes none. -/
theorem restartPending_of_talkPress (c : Cause) (u : State) :
    (talkPress c u).flags.restartPending = u.flags.restartPending := by
  unfold talkPress
  split
  · simp
  · unfold cancelAsk setLatch
    split <;> simp
  · unfold cancelWait
    split <;> simp
  · unfold talkTaking setLatch
    split_ifs <;> simp
  · split_ifs <;> simp
  · simp
  · rfl

theorem restartPending_of_cancelPress (c : Cause) (u : State) :
    (cancelPress c u).flags.restartPending = u.flags.restartPending := by
  unfold cancelPress
  split
  · unfold cancelAsk setLatch
    split <;> simp
  · unfold cancelWait
    split <;> simp
  · rfl

theorem restartPending_of_priorityPress (u : State) :
    (priorityPress u).flags.restartPending = u.flags.restartPending := by
  unfold priorityPress
  split
  · rfl
  · dsimp only
    split
    · simp
    · split <;> rfl
    · simp
    · rfl

theorem restartPending_of_priorityRelease (c : Cause) (u : State) :
    (priorityRelease c u).flags.restartPending = u.flags.restartPending := by
  unfold priorityRelease setLatch
  split
  · rfl
  · dsimp only
    split
    · split_ifs <;> simp
    · split_ifs <;> simp
    · rfl

theorem restartPending_of_nextPress (u : State) : (nextPress u).flags.restartPending = u.flags.restartPending := by
  have hpush (target : Nat) (action : BitVec 3) : (pushNext target action u).flags = u.flags := by
    unfold pushNext
    split <;> rfl
  unfold nextPress
  split
  · split
    · rw [hpush]
    · rfl
  · split
    · split
      · rw [hpush]
      · rfl
    · rfl

theorem waits_seatPress (k : KeyId) (c : Cause) (u : State) : Waits u (seatPress k c u) := by
  refine waits_of_guard ?_ fun h => if_pos (by simp [h])
  unfold seatPress
  split
  · rfl
  · split
    · rfl
    · split <;> rfl
    · split
      · split
        · rfl
        · exact restartPending_of_talkPress c u
      · split
        · exact restartPending_of_priorityPress u
        · exact restartPending_of_cancelPress c u
      · split
        · exact restartPending_of_nextPress u
        · rfl

theorem waits_seatRelease (k : KeyId) (c : Cause) (u : State) : Waits u (seatRelease k c u) := by
  refine waits_of_guard ?_ fun h => if_pos (by simp [h])
  unfold seatRelease
  split
  · rfl
  · split
    · rfl
    · rfl
    · split
      · split <;> rfl
      · split
        · exact restartPending_of_priorityRelease c u
        · rfl
      · rfl

theorem waits_keyReport (k : KeyId) (pressed : Bool) (c : Cause) (u : State) : Waits u (keyReport k pressed c u) := by
  unfold keyReport
  split
  · exact .refl u
  · split
    · refine Waits.after (waits_seatPress _ _ _) ?_
      split <;> simp
    · exact waits_seatRelease _ _ u

theorem waits_setKey (k : KeyId) (x : KeyState) (u : State) : Waits u (setKey k x u) :=
  waits_of_same (by cases k <;> exact ⟨rfl, rfl, rfl, rfl⟩)

theorem waits_debounceExpiry (k : KeyId) (u : State) : Waits u (debounceExpiry k u) := by
  unfold debounceExpiry
  dsimp only
  split
  · exact .refl u
  · exact (waits_setKey _ _ u).trans (waits_keyReport _ _ _ _)

theorem waits_keyLevelChange (k : KeyId) (pressed : Bool) (u : State) : Waits u (keyLevelChange k pressed u) := by
  unfold keyLevelChange
  split
  · exact .refl u
  · exact waits_setKey _ _ u

/-! ## The line -/

theorem waits_startBoundary (u : State) : Waits u (startBoundary u) := by
  unfold startBoundary
  split
  · exact waits_checkRestart _
  · exact .refl u

theorem waits_arrival (f : Frame) (u : State) : Waits u (arrival f u) := by
  unfold arrival
  split
  · exact waits_checkRestart _
  · exact .refl u

theorem waits_discardFrame (cause : DiscardCause) (u : State) : Waits u (discardFrame cause u) := by
  unfold discardFrame
  dsimp only
  split <;> exact waits_of_same ⟨rfl, rfl, rfl, rfl⟩

theorem waits_frameDiscard (cause : DiscardCause) (u : State) : Waits u (frameDiscard cause u) := by
  unfold frameDiscard
  split
  · exact waits_discardFrame cause u
  · exact .refl u

theorem waits_attemptCompleted (u : State) : Waits u (attemptCompleted u) := by
  unfold attemptCompleted
  split
  · split
    · exact .refl u
    · exact waits_checkRestart _
  · exact .refl u

theorem waits_attemptObjected (u : State) : Waits u (attemptObjected u) := by
  unfold attemptObjected
  split
  · exact waits_checkRestart _
  · exact .refl u

theorem waits_attemptLost (u : State) : Waits u (attemptLost u) := by
  unfold attemptLost
  split
  · split
    · exact waits_checkRestart _
    · exact .refl u
  · exact .refl u

theorem waits_enterStuck (u : State) : Waits u (enterStuck u) := by
  unfold enterStuck
  dsimp only
  split
  · exact waits_checkRestart _
  · exact waits_of_same ⟨rfl, rfl, rfl, rfl⟩

theorem waits_lineStuck (u : State) : Waits u (lineStuck u) := by
  unfold lineStuck
  split
  · exact .refl u
  · exact waits_enterStuck u

theorem waits_lineClear (u : State) : Waits u (lineClear u) := by
  unfold lineClear
  split
  · exact waits_checkRestart _
  · exact .refl u

/-! ## The line values -/

theorem waits_receiveBit (v : Bool) (u : State) : Waits u (receiveBit v u) := by
  unfold receiveBit
  split
  · split
    · exact waits_discardFrame _ u
    · dsimp only
      split <;> exact waits_of_same ⟨rfl, rfl, rfl, rfl⟩
  · dsimp only
    split
    · exact Waits.after (waits_discardFrame _ _) ⟨rfl, rfl, rfl, rfl⟩
    · split <;> exact waits_of_same ⟨rfl, rfl, rfl, rfl⟩

theorem waits_receiveLead (v : Bool) (u : State) : Waits u (receiveLead v u) := by
  unfold receiveLead
  split
  · dsimp only
    split <;> exact waits_of_same ⟨rfl, rfl, rfl, rfl⟩
  · exact waits_discardFrame _ u

theorem same_of_sendOn (rest : List TxBit) (u : State) :
    (sendOn rest u).flags = u.flags ∧ (sendOn rest u).sq = u.sq := by
  unfold sendOn
  split
  · exact ⟨rfl, rfl⟩
  · dsimp only
    split
    · exact ⟨rfl, rfl⟩
    · split <;> exact ⟨rfl, rfl⟩

theorem waits_sendOn (rest : List TxBit) (u : State) : Waits u (sendOn rest u) := by
  obtain ⟨hflags, hsq⟩ := same_of_sendOn rest u
  exact waits_of_same (by rw [hflags, hsq]; exact ⟨rfl, rfl, rfl, rfl⟩)

theorem same_of_readBefore (v : Bool) (b : TxBit) (u : State) :
    (countRun v (if b.part.buffered then pushBit v (busyLine v u) else busyLine v u)).flags = u.flags ∧
      (countRun v (if b.part.buffered then pushBit v (busyLine v u) else busyLine v u)).sq = u.sq := by
  unfold busyLine
  split <;> split <;> exact ⟨rfl, rfl⟩

theorem waits_sendBit (v : Bool) (b : TxBit) (rest : List TxBit) (u : State) : Waits u (sendBit v b rest u) := by
  have hsame {x : State} (h : x.flags = u.flags ∧ x.sq = u.sq) : x.flags.restartPending = u.flags.restartPending ∧
      x.sq.inFlight = u.sq.inFlight ∧ x.sq.floor = u.sq.floor ∧ x.sq.floorHeld = u.sq.floorHeld := by
    rw [h.1, h.2]
    exact ⟨rfl, rfl, rfl, rfl⟩
  have hbefore := same_of_readBefore v b u
  unfold sendBit
  split
  · refine Waits.after (waits_sendOn _ _) (hsame ?_)
    unfold busyLine
    split <;> exact ⟨rfl, rfl⟩
  · dsimp only
    split
    · exact Waits.after (waits_sendOn _ _) (hsame hbefore)
    · split
      · exact Waits.after (waits_attemptLost _) (hsame hbefore)
      · exact Waits.after (waits_sendOn _ _) (hsame hbefore)

theorem waits_readSlot (v : Bool) (u : State) : Waits u (readSlot v u) := by
  unfold readSlot
  split
  · split
    · exact waits_attemptCompleted u
    · exact waits_attemptObjected u
  · split
    · exact waits_discardFrame _ u
    · split
      · split
        · exact waits_arrival _ u
        · exact waits_discardFrame _ u
      · exact waits_discardFrame _ u

theorem waits_idleBit (v : Bool) (u : State) : Waits u (idleBit v u) := by
  unfold idleBit
  split
  · exact waits_of_same ⟨rfl, rfl, rfl, rfl⟩
  · split
    · dsimp only
      split
      · exact Waits.after (waits_startBoundary _) ⟨rfl, rfl, rfl, rfl⟩
      · exact waits_of_same ⟨rfl, rfl, rfl, rfl⟩
    · split <;> exact waits_of_same ⟨rfl, rfl, rfl, rfl⟩

theorem waits_stuckBit (v : Bool) (u : State) : Waits u (stuckBit v u) := by
  unfold stuckBit
  split
  · split
    · exact waits_of_same ⟨rfl, rfl, rfl, rfl⟩
    · exact waits_lineClear u
  · exact waits_of_same ⟨rfl, rfl, rfl, rfl⟩

theorem waits_readBit (v : Bool) (u : State) : Waits u (readBit v u) := by
  have hdriven (x : State) :
      Waits x (match u.li.tx with | b :: rest => sendBit v b rest x | [] => receiveLead v x) := by
    split
    · exact waits_sendBit v _ _ x
    · exact waits_receiveLead v x
  unfold readBit
  dsimp only
  split
  · exact Waits.after (waits_stuckBit v _) ⟨rfl, rfl, rfl, rfl⟩
  · split
    · exact Waits.after (waits_enterStuck _) ⟨rfl, rfl, rfl, rfl⟩
    · split
      · exact Waits.after (waits_idleBit v _) ⟨rfl, rfl, rfl, rfl⟩
      · exact Waits.after (hdriven _) ⟨rfl, rfl, rfl, rfl⟩
      · exact Waits.after (hdriven _) ⟨rfl, rfl, rfl, rfl⟩
      · exact Waits.after (hdriven _) ⟨rfl, rfl, rfl, rfl⟩
      · exact Waits.after (waits_receiveBit v _) ⟨rfl, rfl, rfl, rfl⟩
      · exact Waits.after (waits_readSlot v _) ⟨rfl, rfl, rfl, rfl⟩
      · exact waits_of_same ⟨rfl, rfl, rfl, rfl⟩

/-! ## The panel port -/

theorem waits_command {code : Byte} {inListen inSettling : Bool} {check : PanelStatus} {effect : State → State}
    (h : ∀ u, Waits u (effect u)) : Waits s (command code inListen inSettling check effect s) := by
  unfold command
  split
  · exact waits_of_same ⟨rfl, rfl, rfl, rfl⟩
  · split
    · exact Waits.after (h _) ⟨rfl, rfl, rfl, rfl⟩
    · exact waits_of_same ⟨rfl, rfl, rfl, rfl⟩

theorem waits_panelKey (key action : Byte) (u : State) : Waits u (panelKey key action u) := by
  unfold panelKey
  split
  · exact waits_command fun v => waits_keyReport _ _ _ v
  · exact waits_command fun v => .refl v

theorem waits_unknownCommand (code : Byte) (u : State) : Waits u (unknownCommand code u) := by
  unfold unknownCommand
  split
  · exact .refl u
  · exact waits_of_same ⟨rfl, rfl, rfl, rfl⟩

theorem waits_clearOverflow (u : State) : Waits u (clearOverflow u) := by
  unfold clearOverflow
  split
  · dsimp only
    split <;> exact waits_of_same ⟨rfl, rfl, rfl, rfl⟩
  · exact .refl u

theorem waits_removeFeed (u : State) : Waits u (removeFeed u) := by
  unfold removeFeed
  split
  · exact waits_of_same ⟨rfl, rfl, rfl, rfl⟩
  · exact .refl u

theorem waits_removeEvent (u : State) : Waits u (removeEvent u) := by
  unfold removeEvent
  split
  · dsimp only
    split <;> exact waits_of_same ⟨rfl, rfl, rfl, rfl⟩
  · exact .refl u

/-! ## Commands and steps -/

/-- Every next state of an outcome of s keeps the conditions away. -/
def OutWaits (s : State) (o : Host.Outcome State Fault Refusal) : Prop := ∀ t, o = .next t → Waits s t

theorem outWaits_event {f : State → State} (h : Waits s (f s)) : OutWaits s (event f s) := by
  rintro _ ⟨⟩
  split
  · exact .refl s
  · exact h.trans (waits_flush _)

theorem outWaits_next (h : Waits s t) : OutWaits s (.next t) := by
  rintro _ ⟨⟩
  exact h

theorem outWaits_exec (c : Instr) (s : State) : OutWaits s (exec c s) :=
  match c with
  | .pinResetAssert => outWaits_next (by split <;> exact waits_of_same ⟨rfl, rfl, rfl, rfl⟩)
  | .pinResetRelease .. => outWaits_next (by
      split
      · exact waits_of_running rfl
      · exact .refl s)
  | .startBoundary => outWaits_event (waits_startBoundary s)
  | .frameDiscard cause => outWaits_event (waits_frameDiscard cause s)
  | .objectionBurstEnd => outWaits_event (f := burstEnd) (waits_of_same ⟨rfl, rfl, rfl, rfl⟩)
  | .attemptLost => outWaits_event (waits_attemptLost s)
  | .attemptCompleted => outWaits_event (waits_attemptCompleted s)
  | .attemptObjected => outWaits_event (waits_attemptObjected s)
  | .lineStuck => outWaits_event (waits_lineStuck s)
  | .lineClear => outWaits_event (waits_lineClear s)
  | .orderArrival .. => outWaits_event (waits_arrival _ s)
  | .directCutArrival .. => outWaits_event (waits_arrival _ s)
  | .directGrantArrival .. => outWaits_event (waits_arrival _ s)
  | .directExtendArrival .. => outWaits_event (waits_arrival _ s)
  | .directDropAskArrival .. => outWaits_event (waits_arrival _ s)
  | .directAction47Arrival .. => outWaits_event (waits_arrival _ s)
  | .yieldArrival .. => outWaits_event (waits_arrival _ s)
  | .takeArrival .. => outWaits_event (waits_arrival _ s)
  | .withdrawArrival .. => outWaits_event (waits_arrival _ s)
  | .askArrival .. => outWaits_event (waits_arrival _ s)
  | .holdArrival .. => outWaits_event (waits_arrival _ s)
  | .viewTick => outWaits_event (waits_viewTick s)
  | .laneLapse _ => outWaits_event (waits_laneLapse _ s)
  | .muteSourceLapse _ => outWaits_event (waits_muteSourceLapse _ s)
  | .lineEntryLapse _ => outWaits_event (waits_lineEntryLapse _ s)
  | .settlingEnd => outWaits_event (waits_settlingEnd s)
  | .orderRepeat => outWaits_event (waits_orderRepeat s)
  | .speechTick => outWaits_event (waits_speechTick s)
  | .speechExpiry => outWaits_event (waits_speechExpiry s)
  | .levelSample x => outWaits_event (waits_levelSample x s)
  | .attackCompletion => outWaits_event (waits_attackCompletion s)
  | .releaseCompletion => outWaits_event (waits_releaseCompletion s)
  | .trimCompletion => outWaits_event (waits_trimCompletion s)
  | .gateDelayExpiry => outWaits_event (by unfold gateDelayExpiry; split <;> exact waits_of_same ⟨rfl, rfl, rfl, rfl⟩)
  | .duckTailExpiry => outWaits_event (by unfold duckTailExpiry; split <;> exact waits_of_same ⟨rfl, rfl, rfl, rfl⟩)
  | .keyLevelChange k pressed => outWaits_next (by
      split
      · exact waits_setKey k _ s
      · exact waits_keyLevelChange k pressed s)
  | .debounceExpiry k => outWaits_event (waits_debounceExpiry k s)
  | .refusalFlashEnd => outWaits_event (f := refusalFlashEnd) (waits_of_same ⟨rfl, rfl, rfl, rfl⟩)
  | .readStatus => outWaits_event (f := readStatus) (waits_of_same ⟨rfl, rfl, rfl, rfl⟩)
  | .readLanes => outWaits_event (f := readLanes) (waits_of_same ⟨rfl, rfl, rfl, rfl⟩)
  | .readLine => outWaits_event (f := readLineWindow) (waits_of_same ⟨rfl, rfl, rfl, rfl⟩)
  | .takeEvent => outWaits_event (f := takeEvent) (waits_of_same ⟨rfl, rfl, rfl, rfl⟩)
  | .readFeed => outWaits_event (f := readFeed) (waits_of_same ⟨rfl, rfl, rfl, rfl⟩)
  | .panelKey key action => outWaits_event (waits_panelKey key action s)
  | .panelTrim => outWaits_event (waits_command fun _ => waits_of_same ⟨rfl, rfl, rfl, rfl⟩)
  | .panelRestart => outWaits_event (waits_command fun _ => waits_checkRestart _)
  | .panelFeed _ => outWaits_event (waits_command fun _ => waits_of_same ⟨rfl, rfl, rfl, rfl⟩)
  | .setOrder .. => outWaits_event (waits_command fun u => by
      rw [placeOrder_slots]
      exact waits_of_same ⟨rfl, rfl, rfl, rfl⟩)
  | .sendDirect .. => outWaits_event (waits_command fun _ => waits_of_same ⟨rfl, rfl, rfl, rfl⟩)
  | .unknownCommand code => outWaits_event (waits_unknownCommand code s)
  | .transactionAbandoned => outWaits_event (f := deselect) (waits_of_same ⟨rfl, rfl, rfl, rfl⟩)
  | .eventRecordRemoval => outWaits_event (waits_removeEvent s)
  | .feedRecordRemoval => outWaits_event (waits_removeFeed s)
  | .feedOverflowClear => outWaits_event (waits_clearOverflow s)
  | .restartCompletion => outWaits_event (waits_checkRestart s)

theorem outWaits_after {o : Host.Outcome State Fault Refusal} (h : OutWaits t o)
    (hsame : t.flags.restartPending = s.flags.restartPending ∧ t.sq.inFlight = s.sq.inFlight ∧
      t.sq.floor = s.sq.floor ∧ t.sq.floorHeld = s.sq.floorHeld) : OutWaits s o :=
  fun u hu => (waits_of_same hsame).trans (h u hu)

theorem outWaits_pclkRise (pdi : Bool) (s : State) : OutWaits s (pclkRise pdi s) := by
  have hrecord (last : LastByte) (u : State) : OutWaits u (recordOut last u) := by
    cases last with
    | nothing => exact outWaits_next (.refl u)
    | clearOverflow => exact outWaits_exec .feedOverflowClear u
    | removeEvent => exact outWaits_exec .eventRecordRemoval u
    | removeFeed => exact outWaits_exec .feedRecordRemoval u
  unfold pclkRise
  split
  · simp only [shiftIn]
    split
    · split
      · exact outWaits_exec _ s
      · exact outWaits_next (.refl s)
    · exact outWaits_next (waits_of_same ⟨rfl, rfl, rfl, rfl⟩)
  · unfold shiftOut
    split
    · dsimp only
      split
      · exact outWaits_after (hrecord _ _) ⟨rfl, rfl, rfl, rfl⟩
      · exact outWaits_next (waits_of_same ⟨rfl, rfl, rfl, rfl⟩)
    · exact outWaits_next (.refl s)
  · exact outWaits_next (.refl s)

theorem outWaits_pinEvent (e : PinEvent) (s : State) : OutWaits s (pinEvent e s) := by
  have hport (p : PanelPort) : OutWaits s (.next { s with pp := p }) := outWaits_next (waits_of_same ⟨rfl, rfl, rfl, rfl⟩)
  cases e with
  | lineBit others =>
    refine outWaits_next ?_
    unfold lineBit
    split
    · exact .refl s
    · exact (waits_readBit _ s).trans (waits_flush _)
  | pselFall =>
    simp only [pinEvent]
    split
    · exact hport _
    · split
      · exact outWaits_next (.refl s)
      · exact outWaits_next (waits_of_same ⟨rfl, rfl, rfl, rfl⟩)
  | pselRise =>
    simp only [pinEvent]
    split
    · exact hport _
    · split
      · exact outWaits_next (waits_of_same ⟨rfl, rfl, rfl, rfl⟩)
      · exact outWaits_next (.refl s)
  | pclkRise pdi =>
    simp only [pinEvent]
    split
    · exact outWaits_next (.refl s)
    · exact outWaits_pclkRise pdi s
  | pclkFall =>
    simp only [pinEvent]
    split
    · exact outWaits_next (.refl s)
    · exact outWaits_next (waits_of_same ⟨rfl, rfl, rfl, rfl⟩)

/-- Settles O10: what can empty the FLOOR slot in the wait of a restart, or end the last attempt, ends with the check; every
other effect leaves what the conditions read, fills the slot, or comes about only outside the wait. -/
theorem noStepLeavesARestartDone : Obligations.NoStepLeavesARestartDone := by
  unfold Obligations.NoStepLeavesARestartDone
  intro s t hs hstep
  unfold step at hstep
  split at hstep
  · exact outWaits_pinEvent _ { s with pins := s.pins.tail } t hstep hs
  next c rest _ => exact outWaits_exec c { s with pending := rest } t hstep hs

end Sys2Proof.Instant
end

section

/-! The keys at the Seat Agent (R118 to R121, R162 to R168). -/

namespace Sys2Proof.Instant

open Sys2Proof Sys2Proof.Machine

-- One proof at a time: the text is compiled in bounded memory.
set_option Elab.async false

variable {s u : State}

/-! ## Presses by the seat state -/

theorem abortTrim_of_none {r : TrimAbort} (h : u.vu.trim = none) : abortTrim r u = u := by
  simp [abortTrim, h]

theorem enterIdle_of_idle (h : u.seat = .idle) : enterIdle u = u := by
  have hsame : ({ u with seat := .idle } : State) = u := by rw [← h]
  simp [enterIdle, h, Seat.own?, hsame]

/-- R111, R112: a refused ask of an IDLE seat. -/
theorem askNew_of_idle (hseat : u.seat = .idle) (hfree : u.sq.inFlight = none) :
    askNew u = if 65535 ≤ u.mark then refuse .saturated u
      else if u.order.capacity ≤ u.window.length then refuse .full u
      else { u with seat := .asking, ownAsk := .pending, sq := { u.sq with floor := some { content := .ask, count := 0 } } } := by
  unfold askNew
  rw [enterIdle_of_idle hseat]
  simp [placeFloor, State.flying, hfree]

/-- R118: a cancelled ASK that is not in flight leaves its slot. -/
theorem cancelAsk_of_pending {c : Cause} (hseat : u.seat = .asking) (hask : u.ownAsk = .pending)
    (hfree : u.sq.inFlight = none) :
    cancelAsk c u = post .rl (.askEnded .withdrawn) { u with
      seat := .idle, ownAsk := .none, st := { u.st with waitMeter := 0 }, sq := { u.sq with floor := none } } := by
  have hflying : u.askFlying = false := by simp [State.askFlying, hfree]
  simp [cancelAsk, hflying, removeFloor, State.flying, hfree, endOwnAsk, hask, enterIdle, hseat, Seat.own?, post]

/-- R118: one in flight is latched. -/
theorem cancelAsk_of_flying {c : Cause} (hflying : u.askFlying = true) :
    cancelAsk c u = { u with flags := { u.flags with cancelLatch := some (u.flags.cancelLatch.getD c) } } := by
  simp [cancelAsk, hflying, setLatch]

/-- R118: a waiting seat leaves the line with a WITHDRAW. -/
theorem cancelWait_of_live {c : Cause} {ticket : Nat} (hseat : u.seat = .waiting) (hask : u.ownAsk = .live ticket)
    (hfree : u.sq.inFlight = none) :
    cancelWait c u = post .rl (.askEnded .withdrawn) { u with
      seat := .idle, ownAsk := .none, st := { u.st with waitMeter := 0 }
      sq := { u.sq with floor := some { content := .withdraw ticket c, count := 0 } } } := by
  simp [cancelWait, hask, placeFloor, State.flying, hfree, endOwnAsk, enterIdle, hseat, Seat.own?, post]

/-- R119: a take that is not in flight is left for the line or for IDLE. -/
theorem leaveTake_eq {k : IntendedTake} (hseat : u.seat = .taking k) (hfree : u.sq.inFlight = none) :
    leaveTake k u = { u with
      seat := if k.kind = .line ∨ k.kind = .grant then .waiting else .idle, sq := { u.sq with floor := none } } := by
  by_cases hkind : k.kind = .line ∨ k.kind = .grant
  · rw [leaveTake_of_line hfree hkind, if_pos hkind]
  · rw [leaveTake_of_press hfree hseat (not_or.mp hkind), if_neg hkind]

/-- R107, R132: a press that is neither lost in a restart's wait or in LISTEN nor kept for the end of SETTLING. -/
theorem seatPress_of_acting {k : KeyId} {c : Cause} (hrestart : u.flags.restartPending = false) (hlisten : u.seat ≠ .listen)
    (hsettling : u.seat.isSettling = false) :
    seatPress k c u = match k with
      | .k1 => if u.coughKey then setCough u else talkPress c u
      | .k2 => if u.isChair then priorityPress u else cancelPress c u
      | .k3 => if u.isChair then nextPress u else u := by
  unfold seatPress
  rw [if_neg (by simp [hrestart])]
  cases hseat : u.seat with
  | listen => exact absurd hseat hlisten
  | settling n => simp [hseat, Seat.isSettling] at hsettling
  | idle | asking | waiting | taking | live | warned | yielding => cases k <;> rfl

/-- R132: a release that is not lost. -/
theorem seatRelease_of_acting {k : KeyId} {c : Cause} (hrestart : u.flags.restartPending = false) (hlisten : u.seat ≠ .listen)
    (hsettling : u.seat.isSettling = false) :
    seatRelease k c u = match k with
      | .k1 => if u.coughKey then { u with flags := { u.flags with cough := false } } else u
      | .k2 => if u.isChair then priorityRelease c u else u
      | .k3 => u := by
  unfold seatRelease
  rw [if_neg (by simp [hrestart])]
  cases hseat : u.seat with
  | listen => exact absurd hseat hlisten
  | settling n => simp [hseat, Seat.isSettling] at hsettling
  | idle | asking | waiting | taking | live | warned | yielding => cases k <;> rfl

/-- R107, R118: a K1 press that is no cough reaches the seat as TALK. -/
theorem seatPress_of_talk {c : Cause} (hrestart : u.flags.restartPending = false) (hcough : u.coughKey = false)
    (hlisten : u.seat ≠ .listen) (hsettling : u.seat.isSettling = false) : seatPress .k1 c u = talkPress c u := by
  rw [seatPress_of_acting hrestart hlisten hsettling]
  exact if_neg (by simp [hcough])

/-- R175: the station with K1 debounced as pressed. -/
def talkPressed (s : State) : State := { s with key1 := { pin := true, pressed := true, timer := .stopped } }

/-- R107, R118, R175: a debounced press of K1 with no trim running. -/
theorem debounceExpiry_talk {ms : Nat} (hrole : s.role ≠ .listener) (hpin : s.key1.pin = true)
    (htimer : s.key1.timer = .running ms) (htrim : s.vu.trim = none) :
    debounceExpiry .k1 s = seatPress .k1 .key (talkPressed s) := by
  rw [debounceExpiry_of_running (by simp [State.keyOf, htimer])]
  simp only [State.keyOf, hpin, keyReport]
  rw [if_neg (by exact hrole), abortTrim_of_none (by exact htrim)]
  rfl

/-- R111: a TALK press of an IDLE seat with its FLOOR slot free. -/
theorem talkPress_of_idle_take {c : Cause} {lane : Fin 8} {displace : Bool} (hseat : u.seat = .idle)
    (hfree : u.sq.inFlight = none) (htrim : u.vu.trim = none) (hpriority : u.flags.priorityHeld = false)
    (hdecision : talkDecision u = .take lane displace) :
    talkPress c u = { u with
      seat := .taking { kind := .key, lane := lane, key := 0, displace := displace, muting := false,
                        mode := u.order.mode, grantor := 0 }
      sq := { u.sq with floor := some { content := .take, count := 0 } } } := by
  simp [talkPress, hseat, hdecision, carryOut, State.newTake, State.takeMuting, hpriority, beginTake, enterTaking, abortTrim,
    htrim, placeFloor, State.flying, hfree]

/-! ## The keys of the panel -/

/-- R180, R181: a KEY command that is heard is a report of its key. -/
theorem panelKey_of_heard {key action : Byte} {k : KeyId} (hkey : keyOfByte key = some k) (haction : action = 0 ∨ action = 1)
    (hrestart : s.flags.restartPending = false) (hlisten : s.seat ≠ .listen) (hsettling : s.seat.isSettling = false) :
    panelKey key action s = keyReport k (decide (action = 1)) .panel (s.answering 0x10 0 [] .nothing) := by
  simp only [panelKey, hkey]
  rw [command_of_no_refusal (refusal_eq_none hrestart (fun _ => hlisten) fun _ => hsettling), if_pos (by rw [if_pos haction])]

/-- R156: a press that aborts no trim. -/
theorem keyReport_of_press {k : KeyId} {c : Cause} (hrole : u.role ≠ .listener) (htrim : k ≠ .k1 ∨ u.vu.trim = none) :
    keyReport k true c u = seatPress k c u := by
  rw [keyReport, if_neg hrole, if_pos rfl]
  obtain h | h := htrim
  · rw [if_neg h]
  · rw [abortTrim_of_none h, ite_self]

theorem keyReport_of_release {k : KeyId} {c : Cause} (hrole : u.role ≠ .listener) :
    keyReport k false c u = seatRelease k c u := by
  rw [keyReport, if_neg hrole, if_neg (by simp)]

/-- R156, R181: a panel press that is heard. -/
theorem panelKey_press {key : Byte} {k : KeyId} (hkey : keyOfByte key = some k) (hrole : s.role ≠ .listener)
    (htrim : k ≠ .k1 ∨ s.vu.trim = none) (hrestart : s.flags.restartPending = false) (hlisten : s.seat ≠ .listen)
    (hsettling : s.seat.isSettling = false) :
    panelKey key 1 s = seatPress k .panel (s.answering 0x10 0 [] .nothing) :=
  (panelKey_of_heard hkey (.inr rfl) hrestart hlisten hsettling).trans (keyReport_of_press (by exact hrole) (by exact htrim))

/-- R181: a panel release that is heard. -/
theorem panelKey_release {key : Byte} {k : KeyId} (hkey : keyOfByte key = some k) (hrole : s.role ≠ .listener)
    (hrestart : s.flags.restartPending = false) (hlisten : s.seat ≠ .listen) (hsettling : s.seat.isSettling = false) :
    panelKey key 0 s = seatRelease k .panel (s.answering 0x10 0 [] .nothing) :=
  (panelKey_of_heard hkey (.inl rfl) hrestart hlisten hsettling).trans (keyReport_of_release (by exact hrole))

theorem isChair_of_delegate (h : s.isDelegateSeat = true) : s.isChair = false := by
  cases hrole : s.role <;> simp [State.isDelegateSeat, State.isChair, hrole] at h ⊢

theorem role_of_delegate (h : s.isDelegateSeat = true) : s.role ≠ .listener := by
  intro hrole
  simp [State.isDelegateSeat, hrole] at h

/-- R118: K2 at a seat that is no chair is CANCEL. -/
theorem seatPress_of_cancel {c : Cause} (hrestart : u.flags.restartPending = false) (hlisten : u.seat ≠ .listen)
    (hsettling : u.seat.isSettling = false) (hchair : u.isChair = false) : seatPress .k2 c u = cancelPress c u := by
  rw [seatPress_of_acting hrestart hlisten hsettling]
  exact if_neg (by simp [hchair])

end Sys2Proof.Instant
end

section

/-! A debounced TALK and a CANCEL, by the seat state (R118 to R121, R164, R175). -/

namespace Sys2Proof.Instant

open Sys2Proof Sys2Proof.Machine

-- One proof at a time: the text is compiled in bounded memory.
set_option Elab.async false

variable {s u : State}

/-- R128: a lane given up with KEY. -/
theorem yieldLane_fields {o : OwnLane} {r : YieldReason} (hseat : u.seat.speaking? = some o) (hfree : u.sq.inFlight = none) :
    (flush (yieldLane r u)).seat = .yielding o r ∧
      (flush (yieldLane r u)).sq = { u.sq with floor := some { content := .yield o.lane r, count := 0 } } ∧
      (flush (yieldLane r u)).gateOpen = false ∧
      (u.st.speaking = true →
        (flush (yieldLane r u)).st.speaking = false ∧ (flush (yieldLane r u)).st.lastSpeech = u.st.elapsed) := by
  rw [yieldLane_of_free r hseat (by simp [State.flying, hfree])]
  refine ⟨by simp, by simp, ?_, fun hspeaking => ?_⟩
  · exact gateOpen_of_closed (.inl (by simp [Seat.speaking?]))
  · simp [speechEnd, hspeaking]

/-- R118, R119: the latch takes a cause, unless it is set. -/
theorem getD_of_latched {l : Option Cause} {c : Cause} (h : l ≠ none) : some (l.getD c) = l := by
  cases l with
  | none => exact absurd rfl h
  | some x => rfl

/-- R119: a press in TAKING, but for R164. -/
theorem talkPress_of_take {c : Cause} {k : IntendedTake} (hseat : u.seat = .taking k)
    (hother : u.flags.priorityHeld = false ∨ k.kind ≠ .priority) :
    talkPress c u = if u.flags.cancelLatch.isSome then u else if u.takeFlying then setLatch c u else leaveTake k u := by
  have hcase : ¬ (u.isChair = true ∧ u.flags.priorityHeld = true ∧ k.kind = .priority) := by
    rintro ⟨-, hheld, hkind⟩
    obtain h | h := hother
    · simp [h] at hheld
    · exact h hkind
  simp only [talkPress, hseat, talkTaking, if_neg hcase]

/-- R119: a press that finds no FLOOR frame in flight. -/
theorem talkPress_of_waiting_take {c : Cause} {k : IntendedTake} (hseat : u.seat = .taking k) (hfree : u.sq.inFlight = none)
    (hother : u.flags.priorityHeld = false ∨ k.kind ≠ .priority) :
    talkPress c u = if u.flags.cancelLatch ≠ none then u
      else { u with
        seat := if k.kind = .line ∨ k.kind = .grant then .waiting else .idle, sq := { u.sq with floor := none } } := by
  have hflying : u.takeFlying = false := by simp [State.takeFlying, hfree]
  rw [talkPress_of_take hseat hother, hflying]
  cases hlatch : u.flags.cancelLatch with
  | some x => simp
  | none => simp [leaveTake_eq hseat hfree]

/-- R119: a press that finds the TAKE in flight. -/
theorem talkPress_of_flying {c : Cause} {k : IntendedTake} (hseat : u.seat = .taking k) (hflying : u.takeFlying = true)
    (hother : u.flags.priorityHeld = false ∨ k.kind ≠ .priority) :
    talkPress c u = if u.flags.cancelLatch = none then
        { u with flags := { u.flags with cancelLatch := some (u.flags.cancelLatch.getD c) } }
      else u := by
  rw [talkPress_of_take hseat hother, hflying]
  cases hlatch : u.flags.cancelLatch <;> simp [setLatch, hlatch]

/-- R128, R164: a press in LIVE or WARNED gives up the lane, but for R164. -/
theorem talkPress_of_speaking {c : Cause} {o : OwnLane} (hseat : u.seat = .live o ∨ u.seat = .warned o)
    (hother : u.flags.priorityHeld = false ∨ o.tookBy ≠ .priority) : talkPress c u = yieldLane .key u := by
  have hcase : ¬ (u.isChair = true ∧ u.flags.priorityHeld = true ∧ o.tookBy = .priority) := by
    rintro ⟨-, hheld, hkind⟩
    obtain h | h := hother
    · simp [h] at hheld
    · exact h hkind
  obtain h | h := hseat
  · simp only [talkPress, h, if_neg hcase]
  · simp only [talkPress, h]

/-- R164: at a chair with priority held, a press makes a take of the PRIORITY key one of kind KEY. -/
theorem talkPress_of_priority_take {c : Cause} {k : IntendedTake} (hseat : u.seat = .taking k) (hchair : u.isChair = true)
    (hheld : u.flags.priorityHeld = true) (hkind : k.kind = .priority) :
    talkPress c u = { u with seat := .taking { k with kind := .key } } := by
  simp [talkPress, hseat, talkTaking, hchair, hheld, hkind]

/-- Settles O50: the press reaches the seat as TALK with its cause, and acts by the seat's state. -/
theorem debouncedTalkActsByTheSeatState : Obligations.DebouncedTalkActsByTheSeatState := by
  unfold Obligations.DebouncedTalkActsByTheSeatState
  intro ms s hs hrole hrestart
  refine ⟨fun hpin htimer hcough hpriority htrim => ?_, fun hpin htimer hchair hpriority htrim => ?_, fun hdelegate => ?_⟩
  · refine gives_of_event hs (f := debounceExpiry .k1) rfl ?_
    rw [debounceExpiry_talk hrole hpin htimer htrim]
    intro u latched
    have hlatched : latched = { u with flags := { s.flags with cancelLatch := some (s.flags.cancelLatch.getD .key) } } := rfl
    clear_value latched
    have hkept : talkPressed s = u ∧ u.seat = s.seat ∧ u.flags = s.flags ∧ u.sq = s.sq ∧ u.vu = s.vu ∧ u.order = s.order ∧
        u.mark = s.mark ∧ u.window = s.window ∧ u.ownAsk = s.ownAsk ∧ u.st = s.st ∧ u.outbox = [] ∧
        u.coughKey = s.coughKey ∧ u.askFlying = s.askFlying ∧ u.takeFlying = s.takeFlying ∧
        talkDecision u = talkDecision s ∧ u.isChair = s.isChair :=
      ⟨rfl, rfl, rfl, rfl, rfl, rfl, rfl, rfl, rfl, rfl, hs.2, rfl, rfl, rfl, rfl, rfl⟩
    clear_value u
    obtain ⟨hpressed, hseatKept, hflags, hsq, hvu, horder, hmark, hwindow, hask, hst, hout, hcoughKept, hasking, htaking,
      hdecision, hchairKept⟩ := hkept
    rw [hpressed]
    have hpress (hlisten : s.seat ≠ .listen) (hsettling : s.seat.isSettling = false) :
        seatPress .k1 .key u = talkPress .key u :=
      seatPress_of_talk (by rw [hflags, hrestart]) (by rw [hcoughKept, hcough]) (by rw [hseatKept]; exact hlisten)
        (by rw [hseatKept, hsettling])
    have hpriorityKept : u.flags.priorityHeld = false := by rw [hflags, hpriority]
    refine ⟨fun hfree => ?_, fun hseat hflying => ?_, fun k hseat hflying => ?_⟩
    · have hfreeKept : u.sq.inFlight = none := by rw [hsq, hfree]
      cases hseat : s.seat with
      | idle =>
        rw [hpress (by simp [hseat]) (by simp [hseat, Seat.isSettling])]
        have huseat : u.seat = .idle := hseatKept.trans hseat
        have hcarried : talkPress .key u = carryOut .key (talkDecision s) u := by
          rw [← hdecision]
          simp [talkPress, huseat]
        rw [hcarried]
        cases hd : talkDecision s with
        | take lane displace =>
          rw [hd] at hcarried
          rw [← hcarried, talkPress_of_idle_take huseat hfreeKept (by rw [hvu, htrim]) hpriorityKept (hdecision.trans hd),
            flush_of_empty (by exact hout)]
          dsimp only
          rw [← horder, ← hsq]
        | ask =>
          simp only [carryOut]
          rw [askNew_of_idle huseat hfreeKept, ← hmark, ← horder, ← hwindow, ← hsq]
          split
          next => exact flush_refuse _ hout
          next =>
            split
            next => exact flush_refuse _ hout
            next => exact flush_of_empty (by exact hout)
        | noLane => exact flush_refuse _ hout
        | nothing => exact flush_of_empty (by exact hout)
      | asking =>
        intro hpending
        rw [hpress (by simp [hseat]) (by simp [hseat, Seat.isSettling])]
        have huseat : u.seat = .asking := hseatKept.trans hseat
        rw [show talkPress .key u = cancelAsk .key u by simp [talkPress, huseat],
          cancelAsk_of_pending huseat (hask.trans hpending) hfreeKept, flush_post _ _ (by exact hout), ← hst, ← hsq]
      | waiting =>
        rw [hpress (by simp [hseat]) (by simp [hseat, Seat.isSettling])]
        have huseat : u.seat = .waiting := hseatKept.trans hseat
        cases hlive : s.ownAsk with
        | live ticket =>
          rw [show talkPress .key u = cancelWait .key u by simp [talkPress, huseat],
            cancelWait_of_live huseat (hask.trans hlive) hfreeKept, flush_post _ _ (by exact hout), ← hst, ← hsq]
        | none => trivial
        | pending => trivial
      | taking k =>
        rw [hpress (by simp [hseat]) (by simp [hseat, Seat.isSettling]),
          talkPress_of_waiting_take (hseatKept.trans hseat) hfreeKept (.inl hpriorityKept), ← hflags, ← hsq]
        dsimp only
        split
        · exact flush_of_empty hout
        · exact flush_of_empty (by exact hout)
      | live o =>
        rw [hpress (by simp [hseat]) (by simp [hseat, Seat.isSettling]),
          talkPress_of_speaking (.inl (hseatKept.trans hseat)) (.inl hpriorityKept), ← hst, ← hsq]
        exact yieldLane_fields (by rw [hseatKept, hseat]; rfl) hfreeKept
      | warned o =>
        rw [hpress (by simp [hseat]) (by simp [hseat, Seat.isSettling]),
          talkPress_of_speaking (.inr (hseatKept.trans hseat)) (.inl hpriorityKept), ← hst, ← hsq]
        exact yieldLane_fields (by rw [hseatKept, hseat]; rfl) hfreeKept
      | settling n =>
        have hpending : seatPress .k1 .key u = { u with flags := { u.flags with pendingPress := true } } := by
          simp [seatPress, hflags, hrestart, hseatKept, hseat]
        rw [hpending, flush_of_empty (by exact hout), ← hflags]
        exact ⟨rfl, hseatKept.trans hseat⟩
      | yielding o r =>
        rw [hpress (by simp [hseat]) (by simp [hseat, Seat.isSettling])]
        have hnothing : talkPress .key u = u := by simp [talkPress, hseatKept, hseat]
        rw [hnothing, flush_of_empty hout]
      | listen =>
        have hnothing : seatPress .k1 .key u = u := by simp [seatPress, hseatKept, hseat]
        rw [hnothing, flush_of_empty hout]
    · rw [hpress (by simp [hseat]) (by simp [hseat, Seat.isSettling])]
      have huseat : u.seat = .asking := hseatKept.trans hseat
      rw [show talkPress .key u = cancelAsk .key u by simp [talkPress, huseat],
        cancelAsk_of_flying (hasking.trans hflying), flush_of_empty (by exact hout), hlatched, ← hflags]
    · rw [hpress (by simp [hseat]) (by simp [hseat, Seat.isSettling]),
        talkPress_of_flying (hseatKept.trans hseat) (htaking.trans hflying) (.inl hpriorityKept), hlatched, ← hflags]
      split
      · exact flush_of_empty (by exact hout)
      · exact flush_of_empty hout
  · refine gives_of_event hs (f := debounceExpiry .k1) rfl ?_
    rw [debounceExpiry_talk hrole hpin htimer htrim]
    have hchairSeat : s.isChair = true := by simp [State.isChair, hchair]
    have hpress (hlisten : s.seat ≠ .listen) (hsettling : s.seat.isSettling = false) :
        seatPress .k1 .key (talkPressed s) = talkPress .key (talkPressed s) :=
      seatPress_of_talk (by exact hrestart) (by simp [State.coughKey, State.isDelegateSeat, talkPressed, hchair])
        (by exact hlisten) (by exact hsettling)
    have hquiet : (talkPressed s).outbox = [] := hs.2
    refine ⟨fun k hseat hkind => ?_, fun k hseat hkind hflying => ?_, fun k hseat hkind hfree hlatch => ?_,
      fun o hseat => ⟨fun htook => ?_, fun htook hfree => ?_⟩⟩
    · rw [hpress (by simp [hseat]) (by simp [hseat, Seat.isSettling])]
      have huseat : (talkPressed s).seat = .taking k := hseat
      rw [talkPress_of_priority_take huseat (by exact hchairSeat) (by exact hpriority) hkind]
      exact flush_of_empty (by exact hquiet)
    · rw [hpress (by simp [hseat]) (by simp [hseat, Seat.isSettling]),
        talkPress_of_flying (by exact hseat) (by exact hflying) (.inr (by simp [hkind]))]
      by_cases hlatch : s.flags.cancelLatch = none
      · rw [if_pos (by exact hlatch)]
        exact flush_of_empty (by exact hquiet)
      · rw [if_neg (by exact hlatch), getD_of_latched hlatch]
        exact flush_of_empty hquiet
    · rw [hpress (by simp [hseat]) (by simp [hseat, Seat.isSettling]),
        talkPress_of_waiting_take (by exact hseat) (by exact hfree) (.inr (by simp [hkind])), if_neg (by simp [talkPressed, hlatch]),
        if_neg (by simp [hkind])]
      exact flush_of_empty (by exact hquiet)
    · rw [hpress (by simp [hseat]) (by simp [hseat, Seat.isSettling])]
      have hmade : talkPress .key (talkPressed s) = { talkPressed s with seat := .live { o with tookBy := .key } } := by
        have huseat : (talkPressed s).seat = .live o := hseat
        have hheld : (talkPressed s).flags.priorityHeld = true := hpriority
        have huchair : (talkPressed s).isChair = true := hchairSeat
        simp [talkPress, huseat, hheld, huchair, htook]
      rw [hmade]
      exact flush_of_empty (by exact hquiet)
    · rw [hpress (by simp [hseat]) (by simp [hseat, Seat.isSettling]), talkPress_of_speaking (.inl (by exact hseat)) (.inr htook)]
      obtain ⟨hyields, hplaced, hgate, -⟩ := yieldLane_fields (u := talkPressed s) (r := .key)
        (show (talkPressed s).seat.speaking? = some o by exact (congrArg Seat.speaking? hseat)) hfree
      exact ⟨hyields, hplaced, hgate⟩
  · refine gives_of_event hs (f := panelKey 2 1) rfl ?_
    have hquiet : (s.answering 0x10 0 [] .nothing).outbox = [] := hs.2
    have hpress (hlisten : s.seat ≠ .listen) (hsettling : s.seat.isSettling = false) :
        panelKey 2 1 s = cancelPress .panel (s.answering 0x10 0 [] .nothing) := by
      exact (panelKey_press rfl hrole (.inl (by simp)) hrestart hlisten hsettling).trans
        (seatPress_of_cancel (by exact hrestart) (by exact hlisten) (by exact hsettling) (isChair_of_delegate hdelegate))
    refine ⟨fun hseat hask hfree => ?_, fun hseat hflying => ?_, fun hseat => ?_⟩
    · rw [hpress (by simp [hseat]) (by simp [hseat, Seat.isSettling]),
        show cancelPress .panel (s.answering 0x10 0 [] .nothing) = cancelAsk .panel (s.answering 0x10 0 [] .nothing) by
          simp [cancelPress, hseat],
        cancelAsk_of_pending (by exact hseat) (by exact hask) (by exact hfree), flush_post _ _ (by exact hquiet)]
      rfl
    · rw [hpress (by simp [hseat]) (by simp [hseat, Seat.isSettling]),
        show cancelPress .panel (s.answering 0x10 0 [] .nothing) = cancelAsk .panel (s.answering 0x10 0 [] .nothing) by
          simp [cancelPress, hseat],
        cancelAsk_of_flying (by exact hflying)]
      exact flush_of_empty (by exact hquiet)
    · obtain ⟨k, hk⟩ : ∃ k, s.seat = .taking k := by
        cases h : s.seat <;> simp [h, Seat.isTaking] at hseat ⊢
      rw [hpress (by simp [hk]) (by simp [hk, Seat.isSettling]),
        show cancelPress .panel (s.answering 0x10 0 [] .nothing) = s.answering 0x10 0 [] .nothing by simp [cancelPress, hk]]
      exact flush_of_empty hquiet

end Sys2Proof.Instant
end

section

/-! The panel's keys and a chair's PRIORITY key (R118, R121, R162 to R168, R181). -/

namespace Sys2Proof.Instant

open Sys2Proof Sys2Proof.Machine

-- One proof at a time: the text is compiled in bounded memory.
set_option Elab.async false

variable {s u : State}

/-! ## A chair's NEXT -/

/-- R167, R168: the DIRECT of a NEXT press. -/
theorem pushNext_eq (target : Nat) (action : BitVec 3) :
    pushNext target action u = if 4 ≤ u.sq.direct.length then { u with flash := .running 2000 }
      else { u with sq := { u.sq with direct := u.sq.direct ++
        [{ content := { target := BitVec.ofNat 10 target, action := action, argument := 0 }, count := 0 }] } } := by
  simp [pushNext, State.fifoFull, signalRefusal, pushDirect]

theorem pushNext_outbox (target : Nat) (action : BitVec 3) : (pushNext target action u).outbox = u.outbox := by
  rw [pushNext_eq]
  split <;> rfl

theorem nextPress_outbox : (nextPress u).outbox = u.outbox := by
  unfold nextPress
  split
  · split
    · exact pushNext_outbox ..
    · rfl
  · split
    · split
      · exact pushNext_outbox ..
      · rfl
    · rfl

/-- R167: in MODERATED a NEXT press grants the head of the line. -/
theorem nextPress_of_moderated (hmode : u.order.mode = .moderated) :
    match u.window with
    | e :: _ => nextPress u = pushNext e.asker 1 u
    | [] => nextPress u = signalRefusal u := by
  cases hwindow : u.window <;> simp [nextPress, hmode, hwindow]

/-- R168: in the other modes it cuts the oldest DELEGATE lane. -/
theorem nextPress_of_other (hmode : u.order.mode ≠ .moderated) :
    match u.oldestLane [.delegate] with
    | some i => ∀ r, u.lanes[i] = .held r → nextPress u = pushNext r.holder 0 u
    | none => nextPress u = signalRefusal u := by
  cases holdest : u.oldestLane [.delegate] with
  | none => simp [nextPress, hmode, holdest]
  | some i =>
    intro r hr
    simp only [nextPress, if_neg hmode, holdest, hr]

/-! ## The panel's keys -/

/-- R181: the keys are numbered from 1 to 3. -/
theorem keyOfByte_of_range {key : Byte} (hlow : 1 ≤ key.toNat) (hhigh : key.toNat ≤ 3) : ∃ k, keyOfByte key = some k := by
  have hkey : key = 1 ∨ key = 2 ∨ key = 3 := by bv_omega
  obtain rfl | rfl | rfl := hkey
  · exact ⟨.k1, rfl⟩
  · exact ⟨.k2, rfl⟩
  · exact ⟨.k3, rfl⟩

theorem range_of_keyOfByte {key : Byte} {k : KeyId} (h : keyOfByte key = some k) : 1 ≤ key.toNat ∧ key.toNat ≤ 3 := by
  unfold keyOfByte at h
  split at h
  · simp [*]
  · split at h
    · simp [*]
    · split at h
      · simp [*]
      · cases h

theorem coughKey_of_voice (hdelegate : u.isDelegateSeat = true) (hmode : u.order.mode = .voice) : u.coughKey = true := by
  simp [State.coughKey, hdelegate, hmode]

/-- R181: a key or an action out of range is refused. -/
theorem panelKey_of_bad {key action : Byte} (h : key.toNat = 0 ∨ 3 < key.toNat ∨ 1 < action.toNat)
    (hrestart : s.flags.restartPending = false) (hlisten : s.seat ≠ .listen) (hsettling : s.seat.isSettling = false) :
    panelKey key action s = s.answering 0x10 3 [] .nothing := by
  have hnone := refusal_eq_none (inListen := true) (inSettling := true) hrestart (fun _ => hlisten) fun _ => hsettling
  unfold panelKey
  split
  next k hk =>
    have haction : ¬ (action = 0 ∨ action = 1) := by
      have hrange := range_of_keyOfByte hk
      rintro (rfl | rfl) <;> simp at h <;> omega
    rw [command_of_no_refusal hnone, if_neg haction]
    rfl
  next hk =>
    rw [command_of_no_refusal hnone]
    rfl

/-- Settles O51: a panel key is heard as its key, and acts as the seat and its role make it. -/
theorem panelKeyGivesThePressWithCausePanel : Obligations.PanelKeyGivesThePressWithCausePanel := by
  unfold Obligations.PanelKeyGivesThePressWithCausePanel
  intro ticket ms s hs
  refine ⟨fun hrole k htimer => ?listener, fun hrestart hsettling hlisten htrim => ⟨fun hdelegate hmode hseat hask hfree key hkey => ?waits,
    fun hdelegate hmode => ⟨?cough, ?uncough⟩, fun hchair => ?next, fun hdelegate hmode key hlow hhigh => ?release,
    fun key action hbad => ?bad⟩⟩
  case listener =>
    have hexpiry : debounceExpiry k s =
        setKey k { pin := (s.keyOf k).pin, pressed := (s.keyOf k).pin, timer := .stopped } s := by
      rw [debounceExpiry_of_running (by simp [htimer]), keyReport, if_pos (by cases k <;> exact hrole)]
    refine gives_of_quiet hs (f := debounceExpiry k) rfl ?_ ?_ <;> rw [hexpiry]
    · cases k <;> exact hs.2
    · exact ⟨setKey_eq .., keyOf_setKey_same .., fun j hj => keyOf_setKey_other _ _ hj⟩
  case waits =>
    have hpress : panelKey key 1 s = cancelWait .panel (s.answering 0x10 0 [] .nothing) := by
      have hcough : (s.answering 0x10 0 [] .nothing).coughKey = false := by simp [State.coughKey, hmode]
      obtain rfl | rfl := hkey
      · rw [panelKey_press (k := .k1) rfl (role_of_delegate hdelegate) (.inr htrim) hrestart hlisten hsettling,
          seatPress_of_talk (by exact hrestart) hcough (by exact hlisten) (by exact hsettling)]
        simp [talkPress, hseat]
      · rw [panelKey_press (k := .k2) rfl (role_of_delegate hdelegate) (.inr htrim) hrestart hlisten hsettling,
          seatPress_of_cancel (by exact hrestart) (by exact hlisten) (by exact hsettling)
            (by exact isChair_of_delegate hdelegate)]
        simp [cancelPress, hseat]
    refine gives_of_event hs (f := panelKey key 1) rfl ?_
    rw [hpress, cancelWait_of_live (by exact hseat) (by exact hask) (by exact hfree), flush_post _ _ (by exact hs.2)]
    rfl
  case cough =>
    have hpress : panelKey 1 1 s = setCough (s.answering 0x10 0 [] .nothing) := by
      rw [panelKey_press (k := .k1) rfl (role_of_delegate hdelegate) (.inr htrim) hrestart hlisten hsettling,
        seatPress_of_acting (by exact hrestart) (by exact hlisten) (by exact hsettling)]
      exact if_pos (coughKey_of_voice hdelegate hmode)
    refine gives_of_quiet hs (f := panelKey 1 1) rfl ?_ ?_ <;> rw [hpress]
    · exact hs.2
    · rfl
  case uncough =>
    have hrelease : panelKey 1 0 s = { (s.answering 0x10 0 [] .nothing) with flags := { s.flags with cough := false } } := by
      rw [panelKey_release (k := .k1) rfl (role_of_delegate hdelegate) hrestart hlisten hsettling,
        seatRelease_of_acting (by exact hrestart) (by exact hlisten) (by exact hsettling)]
      exact if_pos (coughKey_of_voice hdelegate hmode)
    refine gives_of_quiet hs (f := panelKey 1 0) rfl ?_ ?_ <;> rw [hrelease]
    exact hs.2
  case next =>
    have hpress : panelKey 3 1 s = nextPress (s.answering 0x10 0 [] .nothing) := by
      rw [panelKey_press (k := .k3) rfl (by simp [hchair]) (.inr htrim) hrestart hlisten hsettling,
        seatPress_of_acting (by exact hrestart) (by exact hlisten) (by exact hsettling)]
      exact if_pos (by simp [State.isChair, hchair])
    refine gives_of_quiet hs (f := panelKey 3 1) rfl ?_ ?_ <;> rw [hpress]
    · rw [nextPress_outbox]
      exact hs.2
    · intro push
      have hpush (target : Nat) (action : BitVec 3) : pushNext target action (s.answering 0x10 0 [] .nothing) = push target action :=
        pushNext_eq target action
      split
      next hmode =>
        have hnext := nextPress_of_moderated (u := s.answering 0x10 0 [] .nothing) hmode
        cases hwindow : s.window with
        | nil =>
          rw [show (s.answering 0x10 0 [] .nothing).window = [] from hwindow] at hnext
          exact hnext
        | cons e es =>
          rw [show (s.answering 0x10 0 [] .nothing).window = e :: es from hwindow] at hnext
          exact hnext.trans (hpush _ _)
      next hmode =>
        have hnext := nextPress_of_other (u := s.answering 0x10 0 [] .nothing) hmode
        cases holdest : s.oldestLane [.delegate] with
        | none =>
          rw [show (s.answering 0x10 0 [] .nothing).oldestLane [.delegate] = none from holdest] at hnext
          exact hnext
        | some i =>
          rw [show (s.answering 0x10 0 [] .nothing).oldestLane [.delegate] = some i from holdest] at hnext
          exact fun r hr => (hnext r hr).trans (hpush _ _)
  case release =>
    obtain ⟨k, hk⟩ := keyOfByte_of_range hlow hhigh
    have hrelease : panelKey key 0 s = s.answering 0x10 0 [] .nothing := by
      rw [panelKey_release hk (role_of_delegate hdelegate) hrestart hlisten hsettling,
        seatRelease_of_acting (by exact hrestart) (by exact hlisten) (by exact hsettling)]
      cases k with
      | k1 => exact if_neg (by simp [State.coughKey, hmode])
      | k2 => exact if_neg (ne_true_of_eq_false (isChair_of_delegate (by exact hdelegate)))
      | k3 => rfl
    refine gives_of_quiet hs (f := panelKey key 0) rfl ?_ ?_ <;> rw [hrelease]
    exact hs.2
  case bad =>
    refine gives_of_quiet hs (f := panelKey key action) rfl ?_ ?_ <;> rw [panelKey_of_bad hbad hrestart hlisten hsettling]
    exact hs.2

end Sys2Proof.Instant
end

section

/-! A chair's PRIORITY key (R162 to R166). -/

namespace Sys2Proof.Instant

open Sys2Proof Sys2Proof.Machine

-- One proof at a time: the text is compiled in bounded memory.
set_option Elab.async false

variable {s u : State}

/-- R112: a take of an IDLE seat with no FLOOR frame in flight and no trim running. -/
theorem beginTake_of_free (k : IntendedTake) (hfree : u.sq.inFlight = none) (htrim : u.vu.trim = none) :
    beginTake k u = { u with seat := .taking k, sq := { u.sq with floor := some { content := .take, count := 0 } } } := by
  simp [beginTake_of_no_trim k htrim, placeFloor, State.flying, hfree]

/-- R45: the HOLD of a speaking seat with nothing in flight. -/
theorem placeHold_of_free {o : OwnLane} (hseat : u.seat.speaking? = some o) (hrestart : u.flags.restartPending = false)
    (hfree : u.sq.inFlight = none) :
    placeHold u = { u with sq := { u.sq with hold := some (u.sq.hold.getD 0) } } := by
  rw [placeHold_of_speaking hseat hrestart, if_neg (by simp [State.flying, hfree])]

/-- The chair with its PRIORITY key reported as pressed or released by the panel (R162). -/
def priorityAnswered (held : Bool) (s : State) : State :=
  { (s.answering 0x10 0 [] .nothing) with flags := { s.flags with priorityHeld := held } }

/-- R119, R166: a take of the PRIORITY key that is given up. -/
theorem leaveTake_of_priority {k : IntendedTake} (hseat : u.seat = .taking k) (hkind : k.kind = .priority) :
    leaveTake k u = { u with seat := .idle, sq := if u.flying .floor then { u.sq with floorHeld := none }
                                                  else { u.sq with floor := none } } := by
  simp only [leaveTake, hkind, enterIdle, removeFloor]
  split <;> simp [hseat, Seat.own?]

/-- R165: a PRIORITY press at a chair whose key is not held, by the seat. -/
theorem priorityPress_of_clear (hheld : s.flags.priorityHeld = false) :
    priorityPress (s.answering 0x10 0 [] .nothing) =
      match s.seat with
      | .idle => carryOut .priority (chairDecision s) (priorityAnswered true s)
      | .taking k =>
        if k.kind = .key ∧ ¬ s.takeFlying then { priorityAnswered true s with seat := .taking { k with muting := true } }
        else priorityAnswered true s
      | .live o => placeHold { priorityAnswered true s with seat := .live { o with muting := true } }
      | _ => priorityAnswered true s := by
  rw [priorityPress, if_neg (by simp [hheld])]
  rfl

/-- R166: a PRIORITY release at a chair whose key is held, by the seat. -/
theorem priorityRelease_of_held {c : Cause} (hheld : s.flags.priorityHeld = true) :
    priorityRelease c (s.answering 0x10 0 [] .nothing) =
      match s.seat with
      | .taking k =>
        if k.kind = .priority then
          (if s.takeFlying then setLatch c (priorityAnswered false s) else leaveTake k (priorityAnswered false s))
        else if k.kind = .key ∧ ¬ s.takeFlying then { priorityAnswered false s with seat := .taking { k with muting := false } }
        else priorityAnswered false s
      | .live o =>
        if o.tookBy = .priority then yieldLane .priorityEnd (priorityAnswered false s)
        else placeHold { priorityAnswered false s with seat := .live { o with muting := false } }
      | _ => priorityAnswered false s := by
  rw [priorityRelease, if_neg (by simp [hheld])]
  rfl

/-- Settles O52: the key changes priority held, and then acts by the seat. -/
theorem priorityKeyMutesTheFloor : Obligations.PriorityKeyMutesTheFloor := by
  unfold Obligations.PriorityKeyMutesTheFloor
  intro o k s hs hchair hrestart htrim
  have hrole : s.role ≠ .listener := by simp [hchair]
  have hchairSeat : (s.answering 0x10 0 [] .nothing).isChair = true := by simp [State.isChair, hchair]
  have hquiet (held : Bool) : (priorityAnswered held s).outbox = [] := hs.2
  refine ⟨fun hheld => ?press, fun hheld => ?release⟩
  case press =>
    have hpress (hlisten : s.seat ≠ .listen) (hsettling : s.seat.isSettling = false) :
        panelKey 2 1 s = priorityPress (s.answering 0x10 0 [] .nothing) := by
      rw [panelKey_press (k := .k2) rfl hrole (.inr htrim) hrestart hlisten hsettling,
        seatPress_of_acting (by exact hrestart) (by exact hlisten) (by exact hsettling)]
      exact if_pos hchairSeat
    refine gives_of_event hs (f := panelKey 2 1) rfl ?_
    refine ⟨fun hseat hfree lane displace hdecision => ?_, fun hseat hdecision => ?_, fun hseat => ?_, fun hseat hfree => ?_,
      fun reason hseat => ?_⟩ <;>
      rw [hpress (by simp [hseat]) (by simp [hseat, Seat.isSettling]), priorityPress_of_clear hheld, hseat]
    · dsimp only
      rw [hdecision, carryOut, beginTake_of_free _ (by exact hfree) (by exact htrim)]
      exact flush_of_empty (by exact hquiet true)
    · dsimp only
      rw [hdecision]
      exact flush_refuse _ (hquiet true)
    · dsimp only
      by_cases hkey : k.kind = .key ∧ s.takeFlying = false
      · rw [if_pos (by simpa using hkey), if_pos hkey]
        exact flush_of_empty (by exact hquiet true)
      · rw [if_neg (by simpa using hkey), if_neg hkey]
        exact flush_of_empty (hquiet true)
    · dsimp only
      rw [placeHold_of_free (o := { o with muting := true }) rfl (by exact hrestart) (by exact hfree)]
      exact flush_of_empty (by exact hquiet true)
    · exact flush_of_empty (hquiet true)
  case release =>
    have hrelease (hlisten : s.seat ≠ .listen) (hsettling : s.seat.isSettling = false) :
        panelKey 2 0 s = priorityRelease .panel (s.answering 0x10 0 [] .nothing) := by
      rw [panelKey_release (k := .k2) rfl hrole hrestart hlisten hsettling,
        seatRelease_of_acting (by exact hrestart) (by exact hlisten) (by exact hsettling)]
      exact if_pos hchairSeat
    refine gives_of_event hs (f := panelKey 2 0) rfl ?_
    refine ⟨fun hseat => ?taking, fun hseat hfree => ?live, fun hseat => ?other⟩
    case taking =>
      rw [hrelease (by simp [hseat]) (by simp [hseat, Seat.isSettling]), priorityRelease_of_held hheld, hseat]
      dsimp only
      refine ⟨fun hkind hflying => ?_, fun hkind hflying => ?_, fun hkind => ?_⟩
      · rw [if_pos hkind, if_neg (by simp [hflying]), leaveTake_of_priority (by exact hseat) hkind]
        exact flush_of_empty (by exact hquiet false)
      · rw [if_pos hkind, if_pos hflying]
        exact flush_of_empty (by exact hquiet false)
      · rw [if_neg (by simp [hkind])]
        cases hflying : s.takeFlying with
        | true =>
          rw [if_neg (by simp), if_pos rfl]
          exact flush_of_empty (hquiet false)
        | false =>
          rw [if_pos (by simp [hkind]), if_neg (by simp)]
          exact flush_of_empty (by exact hquiet false)
    case live =>
      rw [hrelease (by simp [hseat]) (by simp [hseat, Seat.isSettling]), priorityRelease_of_held hheld, hseat]
      dsimp only
      refine ⟨fun htook => ?_, fun htook => ?_⟩
      · rw [if_pos htook]
        have hspeaking : (priorityAnswered false s).seat.speaking? = some o := congrArg Seat.speaking? hseat
        obtain ⟨hyields, hplaced, -, -⟩ := yieldLane_fields (r := .priorityEnd) hspeaking (by exact hfree)
        exact ⟨hyields, by simp [priorityAnswered], hplaced⟩
      · rw [if_neg htook, placeHold_of_free (o := { o with muting := false }) rfl (by exact hrestart) (by exact hfree)]
        exact flush_of_empty (by exact hquiet false)
    case other =>
      obtain h | ⟨reason, h⟩ := hseat <;>
        rw [hrelease (by simp [h]) (by simp [h, Seat.isSettling]), priorityRelease_of_held hheld, h] <;>
        exact flush_of_empty (hquiet false)

end Sys2Proof.Instant
end

section

/-! Frames as bits (R6, R11, R12, R21). -/

namespace Sys2Proof.Instant

open Sys2Proof Sys2Proof.Machine

-- One proof at a time: the text is compiled in bounded memory.
set_option Elab.async false

/-! ## Fields -/

@[simp] theorem bitsMsb_length (n x : Nat) : (bitsMsb n x).length = n := by
  induction n with
  | zero => rfl
  | succ n ih => simp [bitsMsb, ih]

/-- R21: a field's bits, read behind those of a number already read. -/
theorem foldl_bitsMsb (n x acc : Nat) :
    (bitsMsb n x).foldl (fun acc b => 2 * acc + (if b then 1 else 0)) acc = acc * 2 ^ n + x % 2 ^ n := by
  induction n generalizing acc with
  | zero => simp [bitsMsb, Nat.mod_one]
  | succ n ih =>
    rw [bitsMsb, List.foldl_cons, ih, Nat.mod_pow_succ, Nat.pow_succ, Nat.testBit_eq_decide_div_mod_eq]
    obtain h | h := Nat.mod_two_eq_zero_or_one (x / 2 ^ n) <;> simp [h] <;> ring

/-- R21: a field is read back as its number. -/
theorem natOfBits_bitsMsb {n x : Nat} (h : x < 2 ^ n) : natOfBits (bitsMsb n x) = x := by
  rw [natOfBits, foldl_bitsMsb, Nat.mod_eq_of_lt h]
  omega

@[simp] theorem ofNat_field {n : Nat} (x : BitVec n) : BitVec.ofNat n (natOfBits (bitsMsb n x.toNat)) = x := by
  rw [natOfBits_bitsMsb x.isLt, BitVec.ofNat_toNat, BitVec.setWidth_eq]

@[simp] theorem roleOfCode_field (r : Role) : roleOfCode (natOfBits (bitsMsb 2 (roleCode r))) = r := by
  cases r <;> decide

@[simp] theorem natOfBits_cls (b : Body) : natOfBits (bitsMsb 3 b.cls) = b.cls :=
  natOfBits_bitsMsb (by cases b <;> simp [Body.cls])

/-- R21: the bits behind a field, and the field itself. -/
@[simp] theorem drop_field_append (n x : Nat) (rest : List Bool) (k : Nat) (h : n ≤ k) :
    (bitsMsb n x ++ rest).drop k = rest.drop (k - n) := by
  simp [List.drop_append, List.drop_of_length_le (l := bitsMsb n x) (i := k) (by simpa using h)]

@[simp] theorem take_field_append (n x : Nat) (rest : List Bool) : (bitsMsb n x ++ rest).take n = bitsMsb n x := by
  simp

@[simp] theorem getD_field_append (n x : Nat) (rest : List Bool) (k : Nat) (h : n ≤ k) :
    (bitsMsb n x ++ rest).getD k false = rest.getD (k - n) false := by
  simp [List.getD_eq_getElem?_getD, List.getElem?_append_right (l₁ := bitsMsb n x) (by simpa using h)]

/-- R21: a body is read back by its class. -/
theorem parseBody_bits (b : Body) (crc : List Bool) : parseBody b.cls (b.bits ++ crc) = some b := by
  cases b <;> simp [parseBody, Body.cls, Body.bits, List.getD_cons_zero, List.getD_cons_succ, -List.getD_eq_getElem?_getD]

/-- Settles O11: the arbitration field is read field by field, and the body by its class. -/
theorem frameContentReadsBack : Obligations.FrameContentReadsBack := by
  intro f
  simp [parseFrame, Frame.content, Frame.covered, Frame.arbBits, parseBody_bits]

/-! ## Stuffing -/

/-- R6: no run of more than six equal values, where a run of some length of a value stands before the list. -/
def runsBounded (value : Bool) (length : Nat) : List Bool → Prop
  | [] => True
  | b :: rest => (nextRun value length b).2 ≤ 6 ∧ runsBounded (nextRun value length b).1 (nextRun value length b).2 rest

/-- R6: the stuffed bits have no run of more than six. -/
theorem runsBounded_stuff {value : Bool} {length : Nat} {bits : List TxBit} (h : length < 6) :
    runsBounded value length ((stuff value length bits).map TxBit.value) := by
  induction bits generalizing value length with
  | nil => trivial
  | cons b rest ih =>
    have hrun : (nextRun value length b.value).2 ≤ 6 := by
      unfold nextRun
      split
      · exact h
      · exact Nat.le_of_ble_eq_true rfl
    rw [stuff]
    split
    next hsix =>
      refine ⟨hrun, ?_⟩
      have hstuff : nextRun (nextRun value length b.value).1 (nextRun value length b.value).2 (!(nextRun value length b.value).1)
          = (!(nextRun value length b.value).1, 1) := by
        unfold nextRun
        exact if_neg (by simp)
      simp only [List.map_cons, runsBounded, hstuff]
      exact ⟨by omega, ih (by omega)⟩
    next hsix => exact ⟨hrun, ih (by omega)⟩

/-- A run in progress and the equal values behind it are one run. -/
theorem run_le_of_runsBounded {value : Bool} {length k : Nat} {rest : List Bool} (hlength : length ≤ 6)
    (h : runsBounded value length (List.replicate k value ++ rest)) : length + k ≤ 6 := by
  induction k generalizing length with
  | zero => exact hlength
  | succ k ih =>
    obtain ⟨hnext, htail⟩ := h
    have hrun : nextRun value length value = (value, length + 1) := by simp [nextRun]
    rw [hrun] at hnext htail
    have := ih hnext htail
    omega

theorem not_runsBounded_of_seven {value v : Bool} {length : Nat} (before after : List Bool) :
    ¬ runsBounded value length (before ++ List.replicate 7 v ++ after) := by
  induction before generalizing value length with
  | nil =>
    rintro ⟨hnext, htail⟩
    have hrun : (nextRun value length v).1 = v ∧ 1 ≤ (nextRun value length v).2 := by
      unfold nextRun
      split <;> simp_all
    rw [hrun.1] at htail
    have := run_le_of_runsBounded (k := 6) hnext htail
    omega
  | cons b before ih => exact fun h => ih h.2

/-- Settles O13: a stuff bit ends every run at six. -/
theorem sentFramesHaveNoRunOfSeven : Obligations.SentFramesHaveNoRunOfSeven := by
  intro f v before after h
  exact not_runsBounded_of_seven before after (h ▸ runsBounded_stuff (value := true) (length := 0) (by omega))

end Sys2Proof.Instant
end

section

/-! Screening (R24 to R34). -/

namespace Sys2Proof.Instant

open Sys2Proof Sys2Proof.Machine

-- One proof at a time: the text is compiled in bounded memory.
set_option Elab.async false

variable {f g : Frame}

/-- R24: the verdict, by the tests and the clamped body. -/
theorem screen_eq_discarded_iff : screen f = .discarded ↔ headPasses f = false ∨ bodyPasses f = false := by
  have hor : (headPasses f = false ∨ bodyPasses f = false) ↔ (headPasses f && bodyPasses f) = false := by
    rw [Bool.and_eq_false_iff]
  rw [hor]
  unfold screen
  split
  next h =>
    dsimp only
    split <;> simp [h]
  next h => simpa using h

theorem screen_of_acting (h : actingFrame f = some g) :
    (screen f = .stands ↔ g = f) ∧ (screen f = .clamped g ↔ g ≠ f) := by
  obtain ⟨hhead, hbody, rfl⟩ := Kept.actingFrame_eq_some_iff.mp h
  have hsame : ({ f with body := clampBody f.head.standing f.body } : Frame) = f ↔ clampBody f.head.standing f.body = f.body := by
    refine ⟨fun h => ?_, fun h => by rw [h]⟩
    exact congrArg Frame.body h
  rw [Ne, hsame]
  simp only [screen, hhead, hbody, Bool.and_self, if_true]
  split <;> simp [*]

theorem toNat_eq_zero_iff {n : Nat} (x : BitVec n) : x = 0 ↔ x.toNat = 0 := by
  rw [← BitVec.toNat_inj]
  simp

theorem validAddress_eq_false_iff (a : Nat) : validAddress a = false ↔ a = 0 ∨ 1000 < a := by
  simp only [validAddress, decide_eq_false_iff_not]
  omega

/-- R25: the tests on the head, but for those by kind. -/
theorem headPasses_eq_false_iff :
    headPasses f = false ↔ f.head.sender.toNat = 0 ∨ 1000 < f.head.sender.toNat ∨ f.head.standing = .listener ∨
      match f.body with
      | .order .. | .direct .. => f.head.standing ≠ .chair
      | .withdraw .. | .ask .. => f.head.standing = .chair
      | .yield .. | .take .. | .hold .. => False := by
  simp only [headPasses, Bool.and_eq_false_iff, validAddress_eq_false_iff, or_assoc]
  cases f.body <;> simp

/-- R26 to R34: the tests on the body. -/
theorem bodyPasses_eq_false_iff :
    bodyPasses f = false ↔
      match f.body with
      | .order source .. => f.head.key.toNat ≠ 0 ∨ source.toNat = 0 ∨ 1000 < source.toNat
      | .direct target action _ => f.head.key.toNat ≠ 0 ∨ 1000 < target.toNat ∨ 4 ≤ action.toNat ∨
          (action.toNat = 1 ∧ target.toNat = 0)
      | .yield lane _ => f.head.key.toNat ≠ lane.toNat
      | .take .. => False
      | .withdraw _ | .ask _ => f.head.key.toNat = 0
      | .hold .. => 8 ≤ f.head.key.toNat := by
  have hone (x : BitVec 3) : x = 1 ↔ x.toNat = 1 := by
    rw [← BitVec.toNat_inj]
    rfl
  cases hbody : f.body with
  | direct target action argument =>
    simp only [bodyPasses, hbody, toNat_eq_zero_iff, hone, Bool.and_eq_false_iff, Bool.not_eq_false', Bool.and_eq_true,
      decide_eq_false_iff_not, decide_eq_true_eq]
    omega
  | order source sequence mode l a gr c clear =>
    simp only [bodyPasses, hbody, toNat_eq_zero_iff, Bool.and_eq_false_iff, decide_eq_false_iff_not, validAddress_eq_false_iff, ne_eq]
  | withdraw | ask =>
    simp only [bodyPasses, hbody, ne_eq, toNat_eq_zero_iff, decide_eq_false_iff_not, not_not]
  | yield lane reason => simp only [bodyPasses, hbody, decide_eq_false_iff_not, ne_eq]
  | take lane displace muting => simp only [bodyPasses, hbody, reduceCtorEq]
  | hold elapsed muting warned =>
    simp only [bodyPasses, hbody, decide_eq_false_iff_not]
    omega

/-- R29, R30, R32: the clamped fields. -/
theorem clampBody_direct_eq (standing : Role) (target : AddrBits) (action : BitVec 3) (argument : BitVec 13) :
    clampBody standing (.direct target action argument) =
      .direct target action (if action = 2 then clampArgument argument else argument) := by
  simp only [clampBody]
  split <;> rfl

theorem clampBody_yield_eq (standing : Role) (lane reason : BitVec 3) :
    clampBody standing (.yield lane reason) = .yield lane (if reason.toNat ≤ 5 then reason else 0) := by
  simp only [clampBody]
  split <;> rfl

theorem clampBody_withdraw_eq (standing : Role) (reason : BitVec 2) :
    clampBody standing (.withdraw reason) = .withdraw (if reason.toNat ≤ 2 then reason else 0) := by
  simp only [clampBody]
  split <;> rfl

/-- Settles O14: the verdict is discarded where a test fails, and otherwise the body is clamped. -/
theorem screeningFollowsTheTables : Obligations.ScreeningFollowsTheTables := by
  intro f g
  refine ⟨?_, fun h => ?_⟩
  · rw [screen_eq_discarded_iff, headPasses_eq_false_iff, bodyPasses_eq_false_iff]
    cases hbody : f.body <;> dsimp only <;> tauto
  · obtain ⟨hstands, hclamped⟩ := screen_of_acting h
    obtain ⟨hhead, hpasses, rfl⟩ := Kept.actingFrame_eq_some_iff.mp h
    refine ⟨rfl, hstands, hclamped, ?_⟩
    cases hbody : f.body with
    | order source sequence mode l a gr c clear =>
      exact ⟨rfl, rfl, rfl, rfl, rfl, Kept.clampLaneLimit_toNat l, Kept.clampGrace_toNat gr, Kept.clampCapacity_toNat c⟩
    | direct target action argument =>
      have htwo : action = 2 ↔ action.toNat = 2 := by
        rw [← BitVec.toNat_inj]
        rfl
      rw [clampBody_direct_eq]
      refine ⟨rfl, rfl, ?_⟩
      rw [apply_ite BitVec.toInt, clampArgument_toInt]
      simp only [htwo]
    | yield lane reason =>
      rw [clampBody_yield_eq]
      exact ⟨rfl, rfl⟩
    | withdraw reason =>
      rw [clampBody_withdraw_eq]
    | take lane displace muting => exact ⟨rfl, rfl, rfl⟩
    | ask refresh => exact rfl
    | hold elapsed muting warned => exact ⟨rfl, rfl, rfl⟩

end Sys2Proof.Instant
end

section

/-! Transactions of the panel port, at the pins and at their last byte (R179, R180, R183, R186, R187). -/

namespace Sys2Proof.Instant

open Sys2Proof Sys2Proof.Machine

-- One proof at a time: the text is compiled in bounded memory.
set_option Elab.async false

variable {s : State} {tr : Transaction}

/-! ## The last byte of a record -/

theorem lastByte_of_transaction (h : s.pp.transaction = some tr) : s.lastByte = tr.lastByte := by
  simp [State.lastByte, h]

/-- The transaction whose response has been clocked out. -/
def clockedOut (tr : Transaction) : Transaction := { tr with lastByte := .nothing, clocked := 8 * (1 + tr.response.length) }

/-- R186: the end of an event record. -/
theorem removeEvent_of_reading (h : s.pp.transaction = some tr) (hlast : tr.lastByte = .removeEvent) (hreading : s.pp.reading = true) :
    removeEvent s = { s with pp := { s.pp with
      events := s.pp.events.tail, reading := false, transaction := some (clockedOut tr) } } := by
  simp [removeEvent, lastByte_of_transaction h, hlast, hreading, lastByteOut, h, clockedOut, Transaction.length]

/-- R187: the end of a feed record. -/
theorem removeFeed_of_last (h : s.pp.transaction = some tr) (hlast : tr.lastByte = .removeFeed) :
    removeFeed s = { s with pp := { s.pp with feed := s.pp.feed.tail, transaction := some (clockedOut tr) } } := by
  simp [removeFeed, lastByte_of_transaction h, hlast, lastByteOut, h, clockedOut, Transaction.length]

/-- R183: the end of a status record that showed an overflow. -/
theorem clearOverflow_of_last (h : s.pp.transaction = some tr) (hlast : tr.lastByte = .clearOverflow) :
    clearOverflow s = { s with pp := { s.pp with
      overflow := s.pp.overflow && s.pp.overflowSince, transaction := some (clockedOut tr) } } := by
  cases hsince : s.pp.overflowSince <;>
    simp [clearOverflow, lastByte_of_transaction h, hlast, hsince, lastByteOut, h, clockedOut, Transaction.length]

/-- R179: an event that gives one state at two states, both with RST_N high. -/
theorem event_congr {f : State → State} {u v : State} (hu : u.resetLow = false) (hv : v.resetLow = false) (h : f u = f v) :
    event f u = event f v := by
  rw [event_of_high f hu, event_of_high f hv, h]

/-! ## PDO -/

theorem outBit_of_getElem? {n : Nat} {byte : Byte} (h : (tr.status :: tr.response)[n / 8]? = some byte) :
    tr.outBit n = byte.getMsbD (n % 8) := by
  rw [Transaction.outBit, List.getD_eq_getElem?_getD, h, Option.getD_some]

theorem outBit_of_le {n : Nat} (h : (tr.status :: tr.response).length ≤ n / 8) : tr.outBit n = false := by
  rw [Transaction.outBit, List.getD_eq_default _ _ h]
  simp

/-! ## PDI -/

theorem bytesOf_of_short {l : List Bool} (h : l.length < 8) : bytesOf l = [] := by
  unfold bytesOf
  split
  · simp only [List.length_cons] at h
    omega
  · rfl

/-- R179: a byte's bits, most significant first, are read as that byte. -/
theorem bytesOf_byte_append (b : Byte) (rest : List Bool) : bytesOf (bitsMsb 8 b.toNat ++ rest) = b :: bytesOf rest := by
  have h := ofNat_field b
  simp only [bitsMsb, List.cons_append, List.nil_append, bytesOf] at h ⊢
  rw [h]

/-- R179: the bits of some bytes, one by one. -/
def bitsOf (bytes : List Byte) : List Bool := bytes.flatMap fun b => bitsMsb 8 b.toNat

theorem bitsOf_length (bytes : List Byte) : (bitsOf bytes).length = 8 * bytes.length := by
  induction bytes with
  | nil => rfl
  | cons b bytes ih =>
    simp only [bitsOf, List.flatMap_cons, List.length_append, bitsMsb_length, List.length_cons] at ih ⊢
    omega

/-- R179: the whole bytes in the first bits of some bytes. -/
theorem bytesOf_take_bitsOf (bytes : List Byte) (k : Nat) : bytesOf ((bitsOf bytes).take k) = bytes.take (k / 8) := by
  induction bytes generalizing k with
  | nil => simp [bitsOf, bytesOf]
  | cons b bytes ih =>
    by_cases hk : k < 8
    · rw [bytesOf_of_short (by rw [List.length_take]; omega), Nat.div_eq_of_lt hk, List.take_zero]
    · obtain ⟨j, rfl⟩ := Nat.exists_eq_add_of_le (Nat.le_of_not_lt hk)
      have hbits : (bitsOf (b :: bytes)).take (8 + j) = bitsMsb 8 b.toNat ++ (bitsOf bytes).take j := by
        simp [bitsOf, List.take_append, List.take_of_length_le]
      rw [hbits, bytesOf_byte_append, ih, show (8 + j) / 8 = j / 8 + 1 by omega, List.take_succ_cons]

/-- R180: a command's bytes are its code and as many argument bytes as the code takes. -/
theorem panelBytes_length {c : Instr} {bytes : List Byte} (hc : c.wellFormed = true) (h : panelBytes c = some bytes) :
    ∃ code args, bytes = code :: args ∧ args.length = argumentBytes code := by
  cases c with
  | unknownCommand code =>
    cases h
    refine ⟨_, _, rfl, ?_⟩
    simp [Instr.wellFormed, commandCodes] at hc
    simp [argumentBytes, hc]
  | readStatus | readLanes | readLine | takeEvent | readFeed | panelKey | panelTrim | panelRestart | panelFeed | setOrder
  | sendDirect =>
    cases h
    exact ⟨_, _, rfl, rfl⟩
  | _ => cases h

/-- R179: before the last bit of a command its bits make no whole command. -/
theorem commandWhole_take {code : Byte} {args : List Byte} (h : args.length = argumentBytes code) (k : Nat) :
    commandWhole ((bitsOf (code :: args)).take k) = decide (8 * (1 + args.length) ≤ k) := by
  rw [commandWhole, bytesOf_take_bitsOf]
  by_cases hk : k < 8
  · rw [Nat.div_eq_of_lt hk, List.take_zero]
    exact (decide_eq_false (by omega)).symm
  · rw [show k / 8 = (k / 8 - 1) + 1 by omega, List.take_succ_cons]
    simp only [List.length_take, ← h, decide_eq_decide]
    omega

/-- The station with some bits in the command shift state (R179). -/
def shifted (bits : List Bool) (s : State) : State := { s with pp := { s.pp with shift := some bits } }

theorem clockIn_concat {bits : List Bool} {b : Bool} {u : State} (h : clockIn bits s = .next u) :
    clockIn (bits ++ [b]) s = pclkRise b u := by
  rw [clockIn] at h
  rw [clockIn, List.foldl_append, h]
  rfl

/-- R179: the bits before the last one join the command shift state. -/
theorem clockIn_take {code : Byte} {args : List Byte} (h : args.length = argumentBytes code) (hs : s.pp.shift = some []) {k : Nat}
    (hk : k < 8 * (1 + args.length)) :
    clockIn ((bitsOf (code :: args)).take k) s = .next (shifted ((bitsOf (code :: args)).take k) s) := by
  have hlength : (bitsOf (code :: args)).length = 8 * (1 + args.length) := by
    rw [bitsOf_length, List.length_cons, Nat.add_comm 1]
  induction k with
  | zero =>
    have hsame : shifted [] s = s := by simp only [shifted, ← hs]
    rw [List.take_zero, hsame]
    rfl
  | succ k ih =>
    have htake := List.take_concat_get' (bitsOf (code :: args)) k (by omega)
    rw [← htake, clockIn_concat (ih (by omega)), pclkRise_of_shift _ (s := shifted ((bitsOf (code :: args)).take k) s) rfl, shiftIn,
      htake, if_neg (by rw [commandWhole_take h]; simpa using hk)]
    rfl

/-- R179: every panel command answers, and so empties the command shift state, before its effect. -/
theorem exec_shifted {c : Instr} {bytes : List Byte} (hc : c.wellFormed = true) (h : panelBytes c = some bytes) (bits : List Bool)
    (hs : s.resetLow = false) : exec c (shifted bits s) = exec c s := by
  cases c with
  | unknownCommand code =>
    have hcode : ¬ commandCodes.contains code = true := by simpa [Instr.wellFormed] using hc
    refine event_congr (f := unknownCommand code) hs hs ?_
    rw [unknownCommand, unknownCommand, if_neg hcode, if_neg hcode]
    rfl
  | readStatus => exact event_congr (f := readStatus) hs hs rfl
  | readLanes => exact event_congr (f := readLanes) hs hs rfl
  | readLine => exact event_congr (f := readLineWindow) hs hs rfl
  | takeEvent => exact event_congr (f := takeEvent) hs hs rfl
  | readFeed => exact event_congr (f := readFeed) hs hs rfl
  | panelKey key action => exact event_congr (f := panelKey key action) hs hs rfl
  | panelTrim => exact event_congr (f := panelTrim) hs hs rfl
  | panelRestart => exact event_congr (f := panelRestart) hs hs rfl
  | panelFeed arg => exact event_congr (f := panelFeed arg) hs hs rfl
  | setOrder mode l a g c clear => exact event_congr (f := panelSetOrder mode l a g c clear) hs hs rfl
  | sendDirect target action argument => exact event_congr (f := panelSendDirect target action argument) hs hs rfl
  | _ => cases h

/-- R179, R180: the bytes of a command are that command. -/
theorem panelCommand_panelBytes {c : Instr} {bytes : List Byte} (hc : c.wellFormed = true) (h : panelBytes c = some bytes) :
    panelCommand bytes = some c := by
  cases c with
  | readStatus | readLanes | readLine | takeEvent | readFeed | panelKey | panelTrim | panelRestart | panelFeed | setOrder =>
    cases h
    rfl
  | sendDirect target action argument => exact Laws.PanelBytes.sendDirect target action argument bytes hc h
  | unknownCommand code => exact Laws.PanelBytes.unknownCommand code bytes hc h
  | _ => cases h

/-- R179: the last bit of a command executes it. -/
theorem clockIn_bitsOf {c : Instr} {bytes : List Byte} (hs : s.resetLow = false) (hc : c.wellFormed = true)
    (h : panelBytes c = some bytes) (hshift : s.pp.shift = some []) : clockIn (bitsOf bytes) s = exec c s := by
  obtain ⟨code, args, rfl, hargs⟩ := panelBytes_length hc h
  have hlength : (bitsOf (code :: args)).length = 8 * (1 + args.length) := by
    rw [bitsOf_length, List.length_cons, Nat.add_comm 1]
  have hall : (bitsOf (code :: args)).take (8 * (1 + args.length)) = bitsOf (code :: args) :=
    List.take_of_length_le (by omega)
  have hlast : (bitsOf (code :: args)).take (8 * (1 + args.length) - 1) ++
      [(bitsOf (code :: args))[8 * (1 + args.length) - 1]] = bitsOf (code :: args) := by
    rw [List.take_concat_get', show 8 * (1 + args.length) - 1 + 1 = 8 * (1 + args.length) by omega, hall]
  have hread : bytesOf (bitsOf (code :: args)) = code :: args := by
    rw [← hall, bytesOf_take_bitsOf, Nat.mul_div_cancel_left _ (by omega), List.take_of_length_le (by simp)]
  have hwhole : commandWhole (bitsOf (code :: args)) = true := by
    rw [← hall, commandWhole_take hargs]
    exact decide_eq_true (Nat.le_refl _)
  rw [← hlast, clockIn_concat (clockIn_take hargs hshift (by omega)),
    pclkRise_of_shift _ (s := shifted ((bitsOf (code :: args)).take (8 * (1 + args.length) - 1)) s) rfl, shiftIn, hlast,
    if_pos hwhole, hread, panelCommand_panelBytes hc h]
  exact exec_shifted hc h _ hs

/-! ## The response, bit by bit -/

/-- R179: a bit of the response before its last one. -/
theorem pclkRise_of_more {pdi : Bool} (hshift : s.pp.shift = none) (htr : s.pp.transaction = some tr)
    (h : tr.clocked + 1 < 8 * (tr.status :: tr.response).length) :
    pclkRise pdi s = .next { s with pp := { s.pp with transaction := some { tr with clocked := tr.clocked + 1 } } } := by
  rw [List.length_cons] at h
  rw [pclkRise_of_transaction pdi hshift htr, shiftOut, if_pos (by rw [Transaction.length]; omega)]
  exact if_neg (by rw [Transaction.length]; omega)

/-- R179: what is clocked after the response changes nothing. -/
theorem pclkRise_of_out {pdi : Bool} (hshift : s.pp.shift = none) (htr : s.pp.transaction = some tr)
    (h : 8 * (tr.status :: tr.response).length ≤ tr.clocked) : pclkRise pdi s = .next s := by
  rw [List.length_cons] at h
  rw [pclkRise_of_transaction pdi hshift htr, shiftOut, if_neg (by rw [Transaction.length]; omega)]

/-- R179: the last bit of the response. -/
theorem pclkRise_of_last {pdi : Bool} (hshift : s.pp.shift = none) (htr : s.pp.transaction = some tr)
    (h : tr.clocked + 1 = 8 * (tr.status :: tr.response).length) :
    pclkRise pdi s = recordOut tr.lastByte
      { s with pp := { s.pp with transaction := some { tr with clocked := tr.clocked + 1 } } } := by
  rw [List.length_cons] at h
  rw [pclkRise_of_transaction pdi hshift htr, shiftOut, if_pos (by rw [Transaction.length]; omega)]
  exact if_pos (by rw [Transaction.length]; omega)

/-- Settles O59: the last byte's removals, the edges of PSEL, and a transaction bit by bit. -/
theorem transactionsEndByTheirLastByte : Obligations.TransactionsEndByTheirLastByte := by
  unfold Obligations.TransactionsEndByTheirLastByte
  intro code tr s hs
  refine ⟨fun hcode => ?unknown, ?abandoned, fun htr => ⟨fun hlast hreading => ?event, fun hlast => ?feed, fun hlast => ?overflow⟩,
    fun rest hpending => ⟨fun hpins hpsel => ?fall, fun hpins hpsel => ?rise, fun pdi hpins hpsel => ?clock⟩,
    fun c bytes hc hbytes hshift => clockIn_bitsOf hs.1 hc hbytes hshift, fun hshift htr => ⟨fun byte hbyte => ?bit, fun hout => ?none,
      fun pdi => ⟨pclkRise_of_more hshift htr, pclkRise_of_out hshift htr, fun hend hlast hreading => ?eventEnd,
        fun hend hlast => ?feedEnd, fun hend hlast => ?overflowEnd⟩⟩⟩
  case unknown =>
    have hnone : unknownCommand code s = s.answering code 6 [] .nothing :=
      if_neg (by simpa [Instr.wellFormed] using hcode)
    exact gives_of_quiet hs (f := unknownCommand code) rfl (by rw [hnone]; exact hs.2) hnone
  case abandoned => exact gives_of_quiet hs (f := transactionAbandoned) rfl hs.2 rfl
  case event =>
    have hremoved := removeEvent_of_reading htr hlast hreading
    exact gives_of_quiet hs (f := removeEvent) rfl (by rw [hremoved]; exact hs.2) hremoved
  case feed =>
    have hremoved := removeFeed_of_last htr hlast
    exact gives_of_quiet hs (f := removeFeed) rfl (by rw [hremoved]; exact hs.2) hremoved
  case overflow =>
    have hcleared := clearOverflow_of_last htr hlast
    exact gives_of_quiet hs (f := clearOverflow) rfl (by rw [hcleared]; exact hs.2) hcleared
  case fall => simp [step, hpending, pinStep, pinEvent, hpins, hs.1, hpsel, pselFall, deselect]
  case rise => simp [step, hpending, pinStep, pinEvent, hpins, hs.1, hpsel, deselect]
  case clock => simp [step, hpending, pinStep, pinEvent, hpins, hs.1, hpsel]
  case bit => rw [pclkFall_pp, htr]; exact outBit_of_getElem? hbyte
  case none => rw [pclkFall_pp, htr]; exact outBit_of_le hout
  case eventEnd =>
    rw [pclkRise_of_last hshift htr hend, hlast]
    refine event_congr (f := removeEvent) hs.1 hs.1 ?_
    rw [removeEvent_of_reading htr hlast hreading, removeEvent_of_reading rfl rfl (by exact hreading)]
    rfl
  case feedEnd =>
    rw [pclkRise_of_last hshift htr hend, hlast]
    refine event_congr (f := removeFeed) hs.1 hs.1 ?_
    rw [removeFeed_of_last htr hlast, removeFeed_of_last rfl rfl]
    rfl
  case overflowEnd =>
    rw [pclkRise_of_last hshift htr hend, hlast]
    refine event_congr (f := clearOverflow) hs.1 hs.1 ?_
    rw [clearOverflow_of_last htr hlast, clearOverflow_of_last rfl rfl]
    rfl

end Sys2Proof.Instant
end

section

/-! The records of the panel's reads, field by field (R182 to R184, R187). -/

namespace Sys2Proof.Instant

open Sys2Proof Sys2Proof.Machine

-- One proof at a time: the text is compiled in bounded memory.
set_option Elab.async false

variable {s : State}

/-! ## Reading a record's fields -/

@[simp] theorem byte1_length (n : Nat) : (byte1 n).length = 1 := by simp [byte1]
@[simp] theorem byte2_length (n : Nat) : (byte2 n).length = 2 := by simp [byte2]
@[simp] theorem byteSigned_length (x : Int) : (byteSigned x).length = 2 := by simp [byteSigned]
@[simp] theorem byteFlag_length (b : Bool) : (byteFlag b).length = 1 := by simp [byteFlag]

theorem octet_append_of_le {xs : List Byte} (r : List Byte) {k : Nat} (h : xs.length ≤ k) :
    octet (xs ++ r) k = octet r (k - xs.length) := by
  simp [octet, List.getD_eq_getElem?_getD, List.getElem?_append_right h]

theorem octet_append_of_lt {xs : List Byte} (r : List Byte) {k : Nat} (h : k < xs.length) :
    octet (xs ++ r) k = octet xs k := by
  simp [octet, List.getD_eq_getElem?_getD, List.getElem?_append_left h]

/-- R179: a field and the fields behind it. -/
@[simp] theorem octet_byte1 (n : Nat) : octet (byte1 n) 0 = n % 256 := by
  simp [octet, byte1]

@[simp] theorem octet_byte1_append (n : Nat) (r : List Byte) : octet (byte1 n ++ r) 0 = n % 256 := by
  rw [octet_append_of_lt r (by simp), octet_byte1]

@[simp] theorem octet_byte1_rest (n : Nat) (r : List Byte) (k : Nat) (h : 1 ≤ k) : octet (byte1 n ++ r) k = octet r (k - 1) :=
  octet_append_of_le r h

@[simp] theorem octet_byte2_rest (n : Nat) (r : List Byte) (k : Nat) (h : 2 ≤ k) : octet (byte2 n ++ r) k = octet r (k - 2) :=
  octet_append_of_le r h

@[simp] theorem word_byte2_append (n : Nat) (r : List Byte) : word (byte2 n ++ r) 0 = n % 65536 := by
  rw [word, octet_append_of_lt r (by simp), octet_append_of_lt r (by simp)]
  simp only [octet, byte2, List.getD_cons_zero, List.getD_cons_succ, BitVec.toNat_ofNat]
  omega

@[simp] theorem word_byte2 (n : Nat) : word (byte2 n) 0 = n % 65536 := by
  have h := word_byte2_append n []
  rwa [List.append_nil] at h

@[simp] theorem word_byte1_rest (n : Nat) (r : List Byte) (k : Nat) (h : 1 ≤ k) : word (byte1 n ++ r) k = word r (k - 1) := by
  rw [word, word, octet_byte1_rest n r k h, octet_byte1_rest n r (k + 1) (by omega), show k + 1 - 1 = k - 1 + 1 by omega]

@[simp] theorem word_byte2_rest (n : Nat) (r : List Byte) (k : Nat) (h : 2 ≤ k) : word (byte2 n ++ r) k = word r (k - 2) := by
  rw [word, word, octet_byte2_rest n r k h, octet_byte2_rest n r (k + 1) (by omega), show k + 1 - 2 = k - 2 + 1 by omega]

/-- R182: a signed value's two bytes are those of its residue. -/
theorem byteSigned_eq (x : Int) : byteSigned x = byte2 (signedWord x) := by
  rw [byteSigned, BitVec.toNat_ofInt]
  rfl

theorem signedWord_lt (x : Int) : signedWord x < 65536 := by
  unfold signedWord
  omega

theorem byteFlag_eq (b : Bool) : byteFlag b = byte1 (if b then 1 else 0) := rfl

/-- R182: the j-th of some records of equal lengths. -/
theorem drop_flatMap {α : Type} {f : α → List Byte} {n : Nat} (hf : ∀ x, (f x).length = n) {l : List α} {j : Nat} {x : α}
    (h : l[j]? = some x) : ∃ rest, (l.flatMap f).drop (n * j) = f x ++ rest := by
  induction l generalizing j with
  | nil => simp at h
  | cons y l ih =>
    cases j with
    | zero =>
      obtain rfl : y = x := by simpa using h
      exact ⟨l.flatMap f, by simp⟩
    | succ j =>
      obtain ⟨rest, hrest⟩ := ih (j := j) (by simpa using h)
      refine ⟨rest, ?_⟩
      rw [List.flatMap_cons, Nat.mul_succ, Nat.add_comm, List.drop_append, List.drop_of_length_le (by simp [hf]), hf,
        Nat.add_sub_cancel_left, hrest, List.nil_append]

theorem length_flatMap_of_length {α : Type} {f : α → List Byte} {n : Nat} (hf : ∀ x, (f x).length = n) (l : List α) :
    (l.flatMap f).length = n * l.length := by
  induction l with
  | nil => rfl
  | cons y l ih => rw [List.flatMap_cons, List.length_append, hf, ih, List.length_cons, Nat.mul_succ, Nat.add_comm]

/-! ## The status record -/

/-- R182: seven flags as one byte. -/
def flagsByte (b0 b1 b2 b3 b4 b5 b6 : Bool) : Nat :=
  b0.toNat + 2 * b1.toNat + 4 * b2.toNat + 8 * b3.toNat + 16 * b4.toNat + 32 * b5.toNat + 64 * b6.toNat

theorem flagsByte_testBit : ∀ b0 b1 b2 b3 b4 b5 b6 : Bool,
    flagsByte b0 b1 b2 b3 b4 b5 b6 < 256 ∧
      (flagsByte b0 b1 b2 b3 b4 b5 b6).testBit 0 = b0 ∧ (flagsByte b0 b1 b2 b3 b4 b5 b6).testBit 1 = b1 ∧
      (flagsByte b0 b1 b2 b3 b4 b5 b6).testBit 2 = b2 ∧ (flagsByte b0 b1 b2 b3 b4 b5 b6).testBit 3 = b3 ∧
      (flagsByte b0 b1 b2 b3 b4 b5 b6).testBit 4 = b4 ∧ (flagsByte b0 b1 b2 b3 b4 b5 b6).testBit 5 = b5 ∧
      (flagsByte b0 b1 b2 b3 b4 b5 b6).testBit 6 = b6 ∧ (flagsByte b0 b1 b2 b3 b4 b5 b6).testBit 7 = false := by
  decide

theorem statusFlags_eq (s : State) :
    s.statusFlags = flagsByte (decide (s.mutes ≠ [])) (decide (s.li.status = .stuck)) s.flags.clash s.pp.overflow
      s.vu.trim.isSome (decide (s.addr = 0 ∨ 1000 < s.addr)) s.pp.feedOn := by
  have hmutes : s.muteActive = decide (s.mutes ≠ []) := by
    cases h : s.mutes <;> simp [State.muteActive, h]
  have haddr : s.invalidAddress = decide (s.addr = 0 ∨ 1000 < s.addr) := by
    rw [State.invalidAddress, Bool.eq_iff_iff, Bool.not_eq_true', validAddress_eq_false_iff, decide_eq_true_iff]
  have hbit (b : Bool) (n : Nat) : (if b = true then n else 0) = n * b.toNat := by cases b <;> simp
  have hstuck : (if s.li.status = .stuck then 2 else 0) = 2 * (decide (s.li.status = .stuck)).toNat := by
    by_cases h : s.li.status = .stuck <;> simp [h]
  rw [State.statusFlags, hmutes, haddr, hstuck]
  simp only [hbit, flagsByte, Nat.one_mul]

theorem rank_of_window (hwindow : s.window.length ≤ 32) (ticket : Nat) : s.rankOf ticket ≤ 32 :=
  Nat.le_trans (List.length_filter_le _ _) hwindow

theorem statusRecord_length (s : State) : s.statusRecord.length = 36 := by
  unfold State.statusRecord
  simp only [List.length_append]
  simp only [byte1_length, byte2_length, byteSigned_length]

/-! ## The five reads -/

theorem laneBytes_length (l : Lane) : l.bytes.length = 10 := by cases l <;> rfl

theorem entryBytes_length (e : Entry) : e.bytes.length = 6 := rfl

theorem bodyBytes_length_le (b : Body) : b.bytes.length ≤ 9 := by
  cases b <;> simp [Body.bytes]

theorem feedBytes_length (r : FeedRec) : r.bytes.length = 16 := by
  have h := bodyBytes_length_le r.frame.body
  simp only [FeedRec.bytes, List.length_append, byte1_length, byte2_length, byteFlag_length, List.length_replicate]
  omega

theorem laneNumbers_getElem? (i : Fin 8) : laneNumbers[i.val]? = some i := by
  revert i
  decide

end Sys2Proof.Instant
end

section

/-! The five reads (R180, R182 to R184, R186, R187). -/

namespace Sys2Proof.Instant

open Sys2Proof Sys2Proof.Machine

-- One proof at a time: the text is compiled in bounded memory.
set_option Elab.async false

variable {s : State}

/-- R182: the fields of the status record, by their places. -/
theorem statusRecord_fields (s : State) :
    word s.statusRecord 0 = s.addr % 65536 ∧ octet s.statusRecord 2 = roleCode s.role % 256 ∧
      octet s.statusRecord 3 = s.seat.code % 256 ∧
      octet s.statusRecord 4 = (match s.seat.own? with | some o => o.lane.val | none => 255) % 256 ∧
      octet s.statusRecord 5 = (match s.seat.own? with | some o => kindCode o.tookBy | none => 255) % 256 ∧
      word s.statusRecord 6 = (match s.ownAsk with | .live t => t | _ => 0) % 65536 ∧
      octet s.statusRecord 8 = s.rank?.getD 255 % 256 ∧ octet s.statusRecord 9 = s.st.phase.code % 256 ∧
      word s.statusRecord 10 = s.st.remaining % 65536 ∧ word s.statusRecord 12 = signedWord s.st.correction % 65536 ∧
      word s.statusRecord 14 = s.st.elapsed % 65536 ∧ word s.statusRecord 16 = s.st.waitMeter % 65536 ∧
      word s.statusRecord 18 = s.st.lastWait % 65536 ∧ word s.statusRecord 20 = s.st.lastSpeech % 65536 ∧
      octet s.statusRecord 22 = s.level % 256 ∧ octet s.statusRecord 23 = s.vu.threshold % 256 ∧
      octet s.statusRecord 24 = modeCode s.order.mode % 256 ∧ octet s.statusRecord 25 = s.order.laneLimit % 256 ∧
      octet s.statusRecord 26 = s.order.allowance % 256 ∧ octet s.statusRecord 27 = s.order.grace % 256 ∧
      octet s.statusRecord 28 = s.order.capacity % 256 ∧ octet s.statusRecord 29 = s.order.sequence.toNat % 256 ∧
      word s.statusRecord 30 = s.order.source % 65536 ∧ octet s.statusRecord 32 = originCode s.order.origin % 256 ∧
      octet s.statusRecord 33 = s.statusFlags % 256 ∧ octet s.statusRecord 34 = s.pp.events.length % 256 ∧
      octet s.statusRecord 35 = s.pp.feed.length % 256 := by
  unfold State.statusRecord
  simp only [List.append_assoc, byteSigned_eq]
  refine ⟨?_, ?_, ?_, ?_, ?_, ?_, ?_, ?_, ?_, ?_, ?_, ?_, ?_, ?_, ?_, ?_, ?_, ?_, ?_, ?_, ?_, ?_, ?_, ?_, ?_, ?_, ?_⟩ <;> simp <;> rfl

/-- R91, R182: the Own Ask's fields of the status record. -/
theorem rank_fields (hwindow : s.window.length ≤ 32) :
    match s.ownAsk with
    | .live ticket => (ticket ≤ 65535 → word s.statusRecord 6 = ticket) ∧ octet s.statusRecord 8 = s.rankOf ticket
    | _ => word s.statusRecord 6 = 0 ∧ octet s.statusRecord 8 = 255 := by
  obtain ⟨-, -, -, -, -, hticket, hrank, -⟩ := statusRecord_fields s
  cases hask : s.ownAsk with
  | live ticket =>
    have := rank_of_window hwindow ticket
    replace hticket : word s.statusRecord 6 = ticket % 65536 := by rw [hticket, hask]
    simp only [State.rank?, hask, Option.getD_some] at hrank
    exact ⟨fun h => by omega, by omega⟩
  | none =>
    rw [hask] at hticket
    simp only [State.rank?, hask, Option.getD_none] at hrank
    exact ⟨hticket, hrank⟩
  | pending =>
    rw [hask] at hticket
    simp only [State.rank?, hask, Option.getD_none] at hrank
    exact ⟨hticket, hrank⟩

/-- R182: a HELD lane's record. -/
theorem laneBytes_fields {x : HeldLane} (rest : List Byte) (h : (Lane.held x).InRange) :
    octet ((Lane.held x).bytes ++ rest) 0 = 1 ∧ word ((Lane.held x).bytes ++ rest) 1 = x.holder ∧
      octet ((Lane.held x).bytes ++ rest) 3 = roleCode x.standing ∧ word ((Lane.held x).bytes ++ rest) 4 = x.ticket ∧
      word ((Lane.held x).bytes ++ rest) 6 = x.age ∧ octet ((Lane.held x).bytes ++ rest) 8 = x.silence ∧
      octet ((Lane.held x).bytes ++ rest) 9 = (if x.muting then 1 else 0) + (if x.warned then 2 else 0) := by
  obtain ⟨hsilence, hage, hticket, -, hholder, -⟩ := h
  have hstanding : roleCode x.standing < 256 := by cases x.standing <;> decide
  have hflags : (if x.muting then 1 else 0) + (if x.warned then 2 else 0) < 256 := by
    cases x.muting <;> cases x.warned <;> decide
  simp only [Lane.bytes, List.append_assoc]
  refine ⟨?_, ?_, ?_, ?_, ?_, ?_, ?_⟩ <;> simp <;> omega

/-- R182: an entry's record. -/
theorem entryBytes_fields {e : Entry} (rest : List Byte) (hasker : e.asker ≤ 1000) (hticket : e.ticket ≤ 65535)
    (hsilence : e.silence ≤ 2) :
    word (e.bytes ++ rest) 0 = e.asker ∧ word (e.bytes ++ rest) 2 = e.ticket ∧
      octet (e.bytes ++ rest) 4 = roleCode e.standing ∧ octet (e.bytes ++ rest) 5 = e.silence := by
  have hstanding : roleCode e.standing < 256 := by cases e.standing <;> decide
  simp only [Entry.bytes, List.append_assoc]
  refine ⟨?_, ?_, ?_, ?_⟩ <;> simp <;> omega

/-- R184: the head event's kind, argument and stamp. -/
theorem eventRecord_fields {x : EventRec} {rest : List EventRec} (h : s.pp.events = x :: rest) :
    octet s.eventRecord 0 = x.event.code ∧ (x.event.arg ≤ 65535 → word s.eventRecord 1 = x.event.arg) ∧
      (x.stamp ≤ 65535 → word s.eventRecord 3 = x.stamp) := by
  have hcode : x.event.code < 256 := by cases x.event <;> simp [Event.code]
  simp only [State.eventRecord, h, List.append_assoc]
  refine ⟨?_, fun harg => ?_, fun hstamp => ?_⟩ <;> simp <;> omega

/-- R182: a feed record's head. -/
theorem feedBytes_fields (x : FeedRec) :
    octet x.bytes 0 = x.frame.body.cls ∧ octet x.bytes 1 = roleCode x.frame.head.standing ∧
      word x.bytes 2 = x.frame.head.key.toNat ∧ word x.bytes 4 = x.frame.head.sender.toNat ∧
      octet x.bytes 6 = (if x.own then 1 else 0) ∧
      x.bytes.drop 7 = x.frame.body.bytes ++ List.replicate (9 - x.frame.body.bytes.length) 0 := by
  have hcls : x.frame.body.cls < 256 := by cases x.frame.body <;> simp [Body.cls]
  have hstanding : roleCode x.frame.head.standing < 256 := by cases x.frame.head.standing <;> decide
  have hkey := x.frame.head.key.isLt
  have hsender := x.frame.head.sender.isLt
  simp only [FeedRec.bytes, byteFlag_eq, List.append_assoc]
  refine ⟨?_, ?_, ?_, ?_, ?_, ?_⟩
  case refine_5 => cases x.own <;> simp
  case refine_6 => rfl
  all_goals
    simp
    omega

/-- R182: the bodies of feed records, with what stands behind them. -/
theorem orderBytes_fields (source : AddrBits) (sequence : BitVec 8) (mode : BitVec 2) (l : BitVec 4) (a : BitVec 8)
    (g c : BitVec 6) (clear : Bool) (rest : List Byte) :
    let b := (Body.order source sequence mode l a g c clear).bytes ++ rest
    word b 0 = source.toNat ∧ octet b 2 = sequence.toNat ∧ octet b 3 = mode.toNat ∧ octet b 4 = l.toNat ∧
      octet b 5 = a.toNat ∧ octet b 6 = g.toNat ∧ octet b 7 = c.toNat ∧ octet b 8 = (if clear then 1 else 0) := by
  have hsource := source.isLt
  have hsequence := sequence.isLt
  have hmode := mode.isLt
  have hl := l.isLt
  have ha := a.isLt
  have hg := g.isLt
  have hc := c.isLt
  simp only [Body.bytes, byteFlag_eq, List.append_assoc]
  refine ⟨?_, ?_, ?_, ?_, ?_, ?_, ?_, ?_⟩
  case refine_8 => cases clear <;> simp
  all_goals
    simp
    omega

theorem directBytes_fields (target : AddrBits) (action : BitVec 3) (argument : BitVec 13) (rest : List Byte) :
    let b := (Body.direct target action argument).bytes ++ rest
    word b 0 = target.toNat ∧ octet b 2 = action.toNat ∧ word b 3 = signedWord argument.toInt ∧ b.drop 5 = rest := by
  have htarget := target.isLt
  have haction := action.isLt
  have hargument := signedWord_lt argument.toInt
  simp only [Body.bytes, byteSigned_eq, List.append_assoc]
  refine ⟨?_, ?_, ?_, rfl⟩ <;> simp <;> omega

theorem yieldBytes_fields (lane reason : BitVec 3) (rest : List Byte) :
    let b := (Body.yield lane reason).bytes ++ rest
    octet b 0 = lane.toNat ∧ octet b 1 = reason.toNat ∧ b.drop 2 = rest := by
  have hlane := lane.isLt
  have hreason := reason.isLt
  simp only [Body.bytes, List.append_assoc]
  refine ⟨?_, ?_, rfl⟩ <;> simp <;> omega

theorem takeBytes_fields (lane : BitVec 3) (displace muting : Bool) (rest : List Byte) :
    let b := (Body.take lane displace muting).bytes ++ rest
    octet b 0 = lane.toNat ∧ octet b 1 = (if displace then 1 else 0) ∧ octet b 2 = (if muting then 1 else 0) ∧
      b.drop 3 = rest := by
  have hlane := lane.isLt
  simp only [Body.bytes, byteFlag_eq, List.append_assoc]
  refine ⟨?_, ?_, ?_, rfl⟩
  · simp
    omega
  · cases displace <;> simp
  · cases muting <;> simp

theorem withdrawBytes_fields (reason : BitVec 2) (rest : List Byte) :
    let b := (Body.withdraw reason).bytes ++ rest
    octet b 0 = reason.toNat ∧ b.drop 1 = rest := by
  have hreason := reason.isLt
  refine ⟨?_, rfl⟩
  simp [Body.bytes]
  omega

theorem askBytes_fields (refresh : Bool) (rest : List Byte) :
    let b := (Body.ask refresh).bytes ++ rest
    octet b 0 = (if refresh then 1 else 0) ∧ b.drop 1 = rest := by
  refine ⟨?_, rfl⟩
  cases refresh <;> simp [Body.bytes, byteFlag_eq]

theorem holdBytes_fields (elapsed : BitVec 16) (muting warned : Bool) (rest : List Byte) :
    let b := (Body.hold elapsed muting warned).bytes ++ rest
    word b 0 = elapsed.toNat ∧ octet b 2 = (if muting then 1 else 0) ∧ octet b 3 = (if warned then 1 else 0) ∧
      b.drop 4 = rest := by
  simp only [Body.bytes, byteFlag_eq, List.append_assoc]
  refine ⟨?_, ?_, ?_, rfl⟩
  · simpa using elapsed.isLt
  · cases muting <;> simp
  · cases warned <;> simp

/-- Settles O54: each read answers with its record, and each record is read at its places. -/
theorem readsAnswerWithTheirRecords : Obligations.ReadsAnswerWithTheirRecords := by
  unfold Obligations.ReadsAnswerWithTheirRecords
  intro s hs
  refine ⟨gives_of_quiet hs (f := readStatus) rfl hs.2 rfl, gives_of_quiet hs (f := readLanes) rfl hs.2 rfl,
    gives_of_quiet hs (f := readLineWindow) rfl hs.2 rfl, gives_of_quiet hs (f := takeEvent) rfl hs.2 ?take,
    gives_of_quiet hs (f := readFeed) rfl hs.2 ?feed, ⟨statusRecord_length s, ?lanesLength, ?lineLength, ?eventLength, ?feedLength⟩,
    fun haddr hwindow horder hst hvoice hpanel => ?status, fun i hi => ?lane, fun hwindow => ⟨?lineCount, fun j e he hasker => ?entry⟩,
    ?event, fun hfeed => ⟨?feedCount, ?feedRecord⟩⟩
  case take => cases hevents : s.pp.events <;> simp [takeEvent, answer, State.answering, PanelStatus.code, hevents]
  case feed => cases hfeed : s.pp.feed <;> simp [readFeed, answer, State.answering, PanelStatus.code, hfeed]
  case lanesLength =>
    rw [State.lanesRecord, length_flatMap_of_length fun i : Fin 8 => laneBytes_length s.lanes[i]]
    rfl
  case lineLength =>
    rw [State.lineRecord, List.length_append, byte1_length, length_flatMap_of_length entryBytes_length]
  case eventLength => cases hevents : s.pp.events <;> simp [State.eventRecord, hevents]
  case feedLength => cases hfeed : s.pp.feed <;> simp [State.feedRecord, hfeed, feedBytes_length]
  case status =>
    obtain ⟨hwlength, -⟩ := hwindow
    obtain ⟨hlimit, hallowance, hgrace, hcapacity, hsource, -⟩ := horder
    obtain ⟨hremaining, -, -, helapsed, hwait, hlastWait, hlastSpeech, -⟩ := hst
    obtain ⟨henvelope, hthreshold, -⟩ := hvoice
    obtain ⟨hevents, -, hfeed, -⟩ := hpanel
    obtain ⟨raddr, rrole, rseat, rlane, rkind, -, -, rphase, rremaining, rcorrection, relapsed, rwait, rlastWait, rlastSpeech,
      rlevel, rthreshold, rmode, rlimit, rallowance, rgrace, rcapacity, rsequence, rsource, rorigin, rflags, revents, rfeed⟩ :=
      statusRecord_fields s
    have hsequence : s.order.sequence.toNat < 256 := s.order.sequence.isLt
    have hcorrection := signedWord_lt s.st.correction
    have hlevel : s.level = s.vu.envelope / 256 := rfl
    obtain ⟨hbyte, hbits⟩ := flagsByte_testBit (decide (s.mutes ≠ [])) (decide (s.li.status = .stuck)) s.flags.clash s.pp.overflow
      s.vu.trim.isSome (decide (s.addr = 0 ∨ 1000 < s.addr)) s.pp.feedOn
    rw [statusFlags_eq, Nat.mod_eq_of_lt hbyte] at rflags
    dsimp only
    rw [rflags]
    refine ⟨by omega, rrole.trans ?_, rseat.trans ?_, rlane.trans ?_, rkind.trans ?_, rank_fields hwlength, rphase.trans ?_,
      ⟨by omega, by omega, by omega, by omega, by omega, by omega⟩, ⟨by omega, by omega⟩, rmode.trans ?_,
      ⟨by omega, by omega, by omega, by omega, rsequence.trans (Nat.mod_eq_of_lt hsequence), by omega, rorigin.trans ?_⟩, hbits, by omega, by omega⟩
    · cases s.role <;> rfl
    · cases s.seat <;> rfl
    · cases s.seat.own? with
      | none => rfl
      | some o => exact Nat.mod_eq_of_lt (Nat.lt_trans o.lane.isLt (by decide))
    · cases s.seat.own? with
      | none => rfl
      | some o => dsimp only; cases o.tookBy <;> rfl
    · cases s.st.phase with
      | counting g => cases g <;> rfl
      | idle | paused => rfl
    · cases s.order.mode <;> rfl
    · cases s.order.origin <;> rfl
  case lane =>
    obtain ⟨rest, hrest⟩ := drop_flatMap (fun i : Fin 8 => laneBytes_length s.lanes[i]) (laneNumbers_getElem? i)
    have hdrop : s.lanesRecord.drop (10 * i.val) = s.lanes[i].bytes ++ rest := hrest
    dsimp only
    rw [hdrop]
    cases hlane : s.lanes[i] with
    | free => rfl
    | held x =>
      rw [hlane] at hi
      obtain ⟨hone, hholder, hstanding, hticket, hage, hsilence, hflags⟩ := laneBytes_fields rest hi
      refine ⟨hone, hholder, hstanding.trans ?_, hticket, hage, hsilence, ?_⟩
      · cases x.standing <;> rfl
      · rw [hflags]
        cases x.muting <;> cases x.warned <;> decide
  case lineCount =>
    obtain ⟨hlength, -⟩ := hwindow
    rw [State.lineRecord, octet_byte1_append]
    omega
  case entry =>
    obtain ⟨-, -, -, hentries, hmark⟩ := hwindow
    obtain ⟨-, -, hticket, hsilence⟩ := hentries e (List.mem_of_getElem? he)
    obtain ⟨rest, hrest⟩ := drop_flatMap entryBytes_length he
    have hdrop : s.lineRecord.drop (1 + 6 * j) = e.bytes ++ rest := by
      rw [State.lineRecord, List.drop_append, List.drop_of_length_le (by simp), byte1_length, Nat.add_sub_cancel_left, hrest,
        List.nil_append]
    dsimp only
    rw [hdrop]
    obtain ⟨hreads, hreadsTicket, hstanding, hreadsSilence⟩ := entryBytes_fields rest hasker (by omega) hsilence
    refine ⟨hreads, hreadsTicket, hstanding.trans ?_, hreadsSilence⟩
    cases e.standing <;> rfl
  case event =>
    cases hevents : s.pp.events with
    | nil => simp [State.eventRecord, hevents]
    | cons x rest =>
      obtain ⟨hkind, harg, hstamp⟩ := eventRecord_fields hevents
      have hshows := And.intro hkind harg
      dsimp only
      refine ⟨hstamp, ?_⟩
      cases hevent : x.event with
      | askEnded reason => rw [hevent] at hshows; cases reason <;> exact hshows
      | askRefused reason => rw [hevent] at hshows; cases reason <;> exact hshows
      | trimAborted reason => rw [hevent] at hshows; cases reason <;> exact hshows
      | _ => rw [hevent] at hshows; exact hshows
  case feedCount =>
    rw [State.feedRecord, octet_byte1_append]
    omega
  case feedRecord =>
    cases hrecords : s.pp.feed with
    | nil => simp [State.feedRecord, hrecords, byte1]
    | cons x rest =>
      have hdrop : s.feedRecord.drop 1 = x.bytes := by
        simp only [State.feedRecord, hrecords]
        rfl
      obtain ⟨hcls, hstanding, hkey, hsender, hown, hbody⟩ := feedBytes_fields x
      dsimp only
      rw [hdrop, hbody]
      refine ⟨hstanding.trans ?_, hkey, hsender, hown, ?_⟩
      · cases x.frame.head.standing <;> rfl
      · cases hx : x.frame.body with
        | order source sequence mode l a g c clear =>
          rw [hx] at hcls
          exact ⟨hcls, orderBytes_fields source sequence mode l a g c clear _⟩
        | direct target action argument =>
          rw [hx] at hcls
          obtain ⟨htarget, haction, hargument, hrest⟩ := directBytes_fields target action argument (List.replicate 4 0)
          exact ⟨hcls, htarget, haction, hargument, hrest⟩
        | yield lane reason =>
          rw [hx] at hcls
          obtain ⟨hlane, hreason, hrest⟩ := yieldBytes_fields lane reason (List.replicate 7 0)
          exact ⟨hcls, hlane, hreason, hrest⟩
        | take lane displace muting =>
          rw [hx] at hcls
          obtain ⟨hlane, hdisplace, hmuting, hrest⟩ := takeBytes_fields lane displace muting (List.replicate 6 0)
          exact ⟨hcls, hlane, hdisplace, hmuting, hrest⟩
        | withdraw reason =>
          rw [hx] at hcls
          obtain ⟨hreason, hrest⟩ := withdrawBytes_fields reason (List.replicate 8 0)
          exact ⟨hcls, hreason, hrest⟩
        | ask refresh =>
          rw [hx] at hcls
          obtain ⟨hrefresh, hrest⟩ := askBytes_fields refresh (List.replicate 8 0)
          exact ⟨hcls, hrefresh, hrest⟩
        | hold elapsed muting warned =>
          rw [hx] at hcls
          obtain ⟨helapsed, hmuting, hwarned, hrest⟩ := holdBytes_fields elapsed muting warned (List.replicate 5 0)
          exact ⟨hcls, helapsed, hmuting, hwarned, hrest⟩

end Sys2Proof.Instant
end

section

/-! RESTART and its completion (R131 to R133). -/

namespace Sys2Proof.Instant

open Sys2Proof Sys2Proof.Machine

-- One proof at a time: the text is compiled in bounded memory.
set_option Elab.async false

variable {s u : State}

/-! ## The completion -/

theorem flush_completeRestart (u : State) : flush (completeRestart u) = State.restarted { u with outbox := [] } :=
  (flush_of_one (b := .pp) (e := .restarted) rfl).trans rfl

theorem flush_completeRestart_of_quiet (hout : u.outbox = []) : flush (completeRestart u) = u.restarted := by
  rw [flush_completeRestart, ← hout]

theorem checkRestart_of_done (hpending : u.flags.restartPending = true) (hflight : u.sq.inFlight = none)
    (hfloor : u.sq.floor = none) (hheld : u.sq.floorHeld = none) : checkRestart u = completeRestart u := by
  simp [checkRestart, State.restartDone, hpending, hflight, hfloor, hheld]

theorem checkRestart_of_flight (h : u.sq.inFlight ≠ none) : checkRestart u = u := by
  cases hflight : u.sq.inFlight with
  | none => exact absurd hflight h
  | some fl => simp [checkRestart, State.restartDone, hflight]

theorem checkRestart_of_floor {x : Slotted FloorFrame} (h : u.sq.floor = some x) : checkRestart u = u := by
  simp [checkRestart, State.restartDone, h]

/-- R133: a restart that completes at a state completes as it does at any that differs from it in the floor state alone. -/
theorem flush_checkRestart_of_done {v : State} (hpending : v.flags.restartPending = true) (hflight : v.sq.inFlight = none)
    (hfloor : v.sq.floor = none) (hheld : v.sq.floorHeld = none) (hsame : completeRestart v = completeRestart u) (hout : u.outbox = []) :
    flush (checkRestart v) = u.restarted := by
  rw [checkRestart_of_done hpending hflight hfloor hheld, hsame, flush_completeRestart_of_quiet hout]

/-! ## What a completion forgets -/

theorem completeRestart_enterIdle (u : State) : completeRestart (enterIdle u) = completeRestart u := by
  simp [completeRestart]

theorem completeRestart_endOwnAsk (r : AskEnd) (u : State) : completeRestart (endOwnAsk r u) = completeRestart u := by
  unfold endOwnAsk
  split <;> rfl

theorem completeRestart_floorArrival (own clash : Bool) (f : Frame) (u : State) :
    completeRestart (floorArrival own clash f u) = completeRestart u := by
  simp [completeRestart]

/-! ## The restart frame -/

/-- R131: the frame by which a restart leaves lane or line, as it stands in flight. -/
def IsRestartFrame (f : Frame) (s : State) : Prop :=
  (∃ lane, f.body = .yield lane (BitVec.ofNat 3 (yieldCode .restart))) ∧ (∃ o, s.seat = .yielding o .restart) ∨
    f.body = .withdraw (BitVec.ofNat 2 (causeCode .restart)) ∧ s.seat = .idle

theorem isRestartFrame_of {f : Frame} {o : OwnLane}
    (h : (∃ lane, f.body = .yield lane (BitVec.ofNat 3 (yieldCode .restart))) ∧ s.seat = .yielding o .restart ∨
      f.body = .withdraw (BitVec.ofNat 2 (causeCode .restart)) ∧ s.seat = .idle) : IsRestartFrame f s :=
  h.imp (fun ⟨hf, hseat⟩ => ⟨hf, o, hseat⟩) id

theorem actingFrame_of_restart {f : Frame} (h : IsRestartFrame f s) : actingFrame f = none ∨ actingFrame f = some f := by
  rw [Kept.actingFrame_eq]
  have hbody : clampBody f.head.standing f.body = f.body := by
    obtain ⟨⟨lane, hf⟩, -⟩ | ⟨hf, -⟩ := h <;> rw [hf] <;> rfl
  rw [hbody]
  split
  · exact .inr rfl
  · exact .inl rfl

/-- R123: the completion of a restart frame changes nothing that a restart's completion does not. -/
theorem ownerCompleted_of_restart {f : Frame} (h : IsRestartFrame f u) :
    (ownerCompleted f u).sq = u.sq ∧ (ownerCompleted f u).flags = u.flags ∧ (ownerCompleted f u).seat ≠ .waiting ∧
      completeRestart (ownerCompleted f u) = completeRestart u := by
  obtain ⟨⟨lane, hf⟩, o, hseat⟩ | ⟨hf, hseat⟩ := h
  · have hcompleted : ownerCompleted f u = enterIdle u := by simp [ownerCompleted, hf, yieldCompleted, hseat]
    rw [hcompleted]
    exact ⟨by simp, by simp, by simp, completeRestart_enterIdle u⟩
  · have hcompleted : ownerCompleted f u = u := by simp [ownerCompleted, hf]
    rw [hcompleted]
    exact ⟨rfl, rfl, by simp [hseat], rfl⟩

theorem seatArrival_of_restart {f : Frame} {before x : State} (h : IsRestartFrame f s) : seatArrival f before x = x := by
  obtain ⟨⟨lane, hf⟩, -⟩ | ⟨hf, -⟩ := h <;> simp [seatArrival, hf]

/-- R133: the restart frame, sent. -/
theorem restarted_of_sent {f : Frame} (h : IsRestartFrame f s) (hrestart : s.flags.restartPending = true)
    (hflight : s.sq.inFlight = some { slot := .floor, frame := f }) (hfault : s.li.bitFault = false)
    (hheld : s.sq.floorHeld = none) (hout : s.outbox = []) :
    flush (attemptCompleted s) = (sentFloor f s).restarted := by
  have hown : attemptCompleted s = checkRestart (ownArrival f (orderSent .floor (takeOut .floor (slotRecessive (lineIdle s))))) := by
    simp [attemptCompleted, hflight, hfault]
  have hsent : IsRestartFrame f (sentFloor f s) := h
  rw [hown, ownArrival, offerFeed_takeOut_floor f hheld]
  obtain hacts | hacts := actingFrame_of_restart h
  · rw [hacts]
    obtain ⟨hsq, hflags, -, hsame⟩ := ownerCompleted_of_restart hsent
    exact flush_checkRestart_of_done (by rw [hflags]; exact hrestart) (by rw [hsq]; rfl) (by rw [hsq]; rfl)
      (by rw [hsq]; exact hheld) hsame hout
  · rw [hacts]
    have harrived : IsRestartFrame f (floorArrival true false f (sentFloor f s)) := by
      obtain ⟨hf, o, hseat⟩ | ⟨hf, hseat⟩ := hsent
      · exact .inl ⟨hf, o, by simpa using hseat⟩
      · exact .inr ⟨hf, by simpa using hseat⟩
    obtain ⟨hsq, hflags, hwaits, hsame⟩ := ownerCompleted_of_restart harrived
    dsimp only
    rw [seatArrival_of_restart h, signals_of_not_waiting hwaits]
    simp only [floorArrival_keeps] at hsq hflags
    exact flush_checkRestart_of_done (by rw [hflags]; exact hrestart) (by rw [hsq]; rfl) (by rw [hsq]; rfl)
      (by rw [hsq]; exact hheld) (hsame.trans (completeRestart_floorArrival true false f _)) hout

/-- R133: the restart frame, dropped. -/
theorem restarted_of_dropped {f : Frame} (h : IsRestartFrame f s) (hrestart : s.flags.restartPending = true)
    (hflight : s.sq.inFlight = some { slot := .floor, frame := f }) (hheld : s.sq.floorHeld = none)
    (hcount : s.flightCount .floor = 3) (hout : s.outbox = []) :
    flush (attemptObjected s) = (lineIdle s).restarted := by
  rw [attemptObjected_of_fourth hflight (by simp [SendQ.heldFor, hheld]) hcount]
  have hdropped : ∀ v : State, v.seat = s.seat →
      (ownerDropped { slot := .floor, frame := f } v).sq = v.sq ∧
        (ownerDropped { slot := .floor, frame := f } v).flags = v.flags ∧
        completeRestart (ownerDropped { slot := .floor, frame := f } v) = completeRestart v := by
    intro v hv
    obtain ⟨⟨lane, hf⟩, o, hseat⟩ | ⟨hf, hseat⟩ := h
    · have hidle : ownerDropped { slot := .floor, frame := f } v = enterIdle v := by
        simp [ownerDropped, hf, Flight.isRestartFrame, hv, hseat]
      rw [hidle]
      exact ⟨by simp, by simp, completeRestart_enterIdle v⟩
    · have hkept : ownerDropped { slot := .floor, frame := f } v = v := by simp [ownerDropped, hf]
      rw [hkept]
      exact ⟨rfl, rfl, rfl⟩
  obtain ⟨hsq, hflags, hsame⟩ := hdropped (post .sq (.sendFailed f.body.cls) (withoutFrame { slot := .floor, frame := f } s)) rfl
  exact flush_checkRestart_of_done (by rw [hflags]; exact hrestart) (by rw [hsq]; rfl) (by rw [hsq]; rfl)
    (by rw [hsq]; exact hheld) (hsame.trans rfl) hout

/-! ## The command -/

/-- R50, R131: the queue when RESTART has emptied it, with nothing in flight. -/
def SendQ.emptied (q : SendQ) : SendQ :=
  { q with order := none, nextOrder := none, direct := [], floor := none, floorHeld := none, askref := none,
           askrefHeld := false, hold := none, holdHeld := false }

/-- R50, R131, R162: the station as RESTART finds its seat. -/
def restarting (s : State) : State :=
  { dropUnflown s with flags := { s.flags with restartPending := true, priorityHeld := false } }

theorem restarting_sq_of_free (hflight : u.sq.inFlight = none) : (restarting u).sq = SendQ.emptied u.sq := by
  simp [restarting, dropUnflown, State.flying, hflight, SendQ.emptied]

theorem restarting_sq_of_floor (hflying : u.flying .floor = true) :
    (restarting u).sq = { SendQ.emptied u.sq with floor := u.sq.floor } := by
  cases hflight : u.sq.inFlight with
  | none => simp [State.flying, hflight] at hflying
  | some fl =>
    have hslot : fl.slot = .floor := by simpa [State.flying, hflight] using hflying
    simp [restarting, dropUnflown, State.flying, hflight, hslot, SendQ.emptied]

theorem restarting_sq_of_hold {fl : Flight} (hflight : u.sq.inFlight = some fl) (hslot : fl.slot = .hold) :
    (restarting u).sq = { SendQ.emptied u.sq with hold := u.sq.hold } := by
  simp [restarting, dropUnflown, State.flying, hflight, hslot, SendQ.emptied]

theorem restarting_eq (u : State) :
    restarting u = { u with
      flags := { u.flags with restartPending := true, priorityHeld := false }, sq := (restarting u).sq } := rfl

theorem flying_restarting (slot : SlotId) (u : State) : (restarting u).flying slot = u.flying slot := rfl

/-- R131, R180: an accepted RESTART with no trim running. -/
theorem panelRestart_eq (hrestart : s.flags.restartPending = false) (hlisten : s.seat ≠ .listen) (htrim : s.vu.trim = none) :
    panelRestart s = checkRestart (restartSeat (restarting (s.answering 0x12 0 [] .nothing))) := by
  rw [panelRestart, command_of_no_refusal (refusal_eq_none hrestart (fun _ => hlisten) (by simp)), if_pos rfl]
  simp only [restart]
  rw [abortTrim_of_none (by exact htrim)]
  rfl

/-- R131: a lane is left with YIELD(RESTART), which the restart waits for. -/
theorem restartSeat_of_speaking {o : OwnLane} (hseat : u.seat = .live o ∨ u.seat = .warned o) (hfree : u.flying .floor = false) :
    checkRestart (restartSeat u) = { speechEnd u with
      seat := .yielding o .restart, sq := { u.sq with floor := some { content := .yield o.lane .restart, count := 0 } } } := by
  have hyield : restartSeat u = yieldLane .restart u := by
    obtain h | h := hseat <;> simp [restartSeat, h]
  have hspeaking : u.seat.speaking? = some o := by
    obtain h | h := hseat <;> simp [h, Seat.speaking?]
  rw [hyield, yieldLane_of_free .restart hspeaking hfree]
  exact checkRestart_of_floor rfl

/-- R131: a YIELD that is not in flight is sent with reason RESTART. -/
theorem restartSeat_of_yielding {o : OwnLane} {r : YieldReason} (hseat : u.seat = .yielding o r) (hfree : u.flying .floor = false) :
    checkRestart (restartSeat u) = { u with
      seat := .yielding o .restart, sq := { u.sq with floor := some { content := .yield o.lane .restart, count := 0 } } } := by
  have hplaced : restartSeat u = { u with
      seat := .yielding o .restart, sq := { u.sq with floor := some { content := .yield o.lane .restart, count := 0 } } } := by
    simp [restartSeat, hseat, hfree, placeFloor]
  rw [hplaced]
  exact checkRestart_of_floor rfl

/-- R131: the line is left with WITHDRAW(RESTART), which the restart waits for. -/
theorem restartSeat_of_line {ticket : Nat} (hseat : u.seat = .waiting ∨ u.seat.isTaking = true) (hask : u.ownAsk = .live ticket)
    (hflight : u.sq.inFlight = none) :
    (checkRestart (restartSeat u)).seat = .idle ∧ (checkRestart (restartSeat u)).ownAsk = .none ∧
      (checkRestart (restartSeat u)).flags = u.flags ∧
      (checkRestart (restartSeat u)).sq = { u.sq with floor := some { content := .withdraw ticket .restart, count := 0 } } := by
  have hleaves : restartSeat u = leaveLine u := by
    obtain h | h := hseat
    · simp [restartSeat, h]
    · cases hk : u.seat <;> simp [hk, Seat.isTaking] at h
      simp [restartSeat, hk, State.takeFlying, hflight]
  have hplaced : leaveLine u = enterIdle (placeFloor (.withdraw ticket .restart) (endOwnAsk .restart u)) := by
    simp [leaveLine, hask]
  have hsq : (leaveLine u).sq = { u.sq with floor := some { content := .withdraw ticket .restart, count := 0 } } := by
    rw [hplaced]
    simp [placeFloor, State.flying, hflight]
  rw [hleaves, checkRestart_of_floor (by rw [hsq])]
  exact ⟨by simp [hplaced], by simp [hplaced], by simp [hplaced], hsq⟩

/-- R132: with nothing in flight and neither lane nor line to leave, the restart completes at once. -/
theorem restartSeat_at_once (hseat : u.seat = .idle ∨ u.seat.isSettling = true ∨ u.seat = .asking ∧ u.ownAsk = .pending ∨
      u.seat.isTaking = true ∧ u.ownAsk = .none) (hpending : u.flags.restartPending = true) (hflight : u.sq.inFlight = none)
    (hfloor : u.sq.floor = none) (hheld : u.sq.floorHeld = none) : checkRestart (restartSeat u) = completeRestart u := by
  have hleft (h : restartSeat u = u ∨ restartSeat u = enterIdle (endOwnAsk .restart u)) :
      checkRestart (restartSeat u) = completeRestart u := by
    obtain h | h := h
    · rw [h, checkRestart_of_done hpending hflight hfloor hheld]
    · rw [h, checkRestart_of_done (by simpa using hpending) (by simpa using hflight) (by simpa using hfloor) (by simpa using hheld),
        completeRestart_enterIdle, completeRestart_endOwnAsk]
  obtain h | h | ⟨h, hask⟩ | ⟨h, hask⟩ := hseat
  · exact hleft (.inl (by simp [restartSeat, h]))
  · cases hn : u.seat <;> simp [hn, Seat.isSettling] at h
    have hcompleted : restartSeat u = completeRestart u := by simp [restartSeat, hn]
    rw [hcompleted]
    exact checkRestart_of_running rfl
  · exact hleft (.inr (by simp [restartSeat, h, State.askFlying, hflight, leaveLine, hask]))
  · cases hk : u.seat <;> simp [hk, Seat.isTaking] at h
    exact hleft (.inr (by simp [restartSeat, hk, State.takeFlying, hflight, leaveLine, hask]))

/-- R131: an ASK or a TAKE in flight is cancelled. -/
theorem restartSeat_of_flying (hseat : u.seat = .asking ∧ u.askFlying = true ∨ u.seat.isTaking = true ∧ u.takeFlying = true)
    (hflight : u.sq.inFlight ≠ none) : checkRestart (restartSeat u) = latchRestart u := by
  have hlatched : restartSeat u = latchRestart u := by
    obtain ⟨h, hflying⟩ | ⟨h, hflying⟩ := hseat
    · simp [restartSeat, h, hflying]
    · cases hk : u.seat <;> simp [hk, Seat.isTaking] at h
      simp [restartSeat, hk, hflying]
  rw [hlatched]
  exact checkRestart_of_flight hflight

/-- R131: a YIELD in flight goes on. -/
theorem restartSeat_of_yield_flying {o : OwnLane} {r : YieldReason} (hseat : u.seat = .yielding o r)
    (hflying : u.flying .floor = true) : restartSeat u = u := by
  simp [restartSeat, hseat, hflying]

theorem flying_floor_of_ask (h : u.askFlying = true) : u.flying .floor = true := by
  unfold State.askFlying at h
  split at h
  next hflight => simp [State.flying, hflight]
  next => cases h

theorem flying_floor_of_take (h : u.takeFlying = true) : u.flying .floor = true := by
  unfold State.takeFlying at h
  split at h
  next hflight => simp [State.flying, hflight]
  next => cases h

/-- Settles O58: the command by the seat and what is in flight, and the completion by the restart frame or by itself. -/
theorem restartLeavesTheFloorAndResets : Obligations.RestartLeavesTheFloorAndResets := by
  unfold Obligations.RestartLeavesTheFloorAndResets
  intro o ticket fl s hs
  refine ⟨fun hrestart htrim => ?command, fun hrestart hflight hslot hheld hlatch hframe => ⟨fun hfault => ?sent, fun hcount => ?dropped⟩,
    fun hrestart hflight hfloor hheld => ?completion⟩
  case command =>
    refine gives_of_event hs (f := panelRestart) rfl ?_
    intro flags emptied
    have hout : (restarting (s.answering 0x12 0 [] .nothing)).outbox = [] := hs.2
    have hgiven (hlisten : s.seat ≠ .listen) :
        flush (panelRestart s) = flush (checkRestart (restartSeat (restarting (s.answering 0x12 0 [] .nothing)))) := by
      rw [panelRestart_eq hrestart hlisten htrim]
    refine ⟨fun hflight => ⟨fun hseat => ?speaking, fun r hseat => ?yielding, fun hseat hask => ?line, fun hseat => ?once⟩,
      fun hflight => ⟨fun hseat hflying => ?ask, fun hseat hflying => ?take, fun r hseat hslot => ?yieldFlying,
        fun hseat hslot => ?holdFlying⟩⟩
    case speaking =>
      have hleft := restartSeat_of_speaking (u := restarting (s.answering 0x12 0 [] .nothing)) hseat (by
        rw [flying_restarting]
        simp [State.flying, hflight])
      rw [restarting_sq_of_free (by exact hflight)] at hleft
      rw [hgiven (by obtain h | h := hseat <;> simp [h]), hleft, flush_of_empty (by exact hout)]
      refine ⟨rfl, rfl, rfl, gateOpen_of_closed (.inl rfl), fun hspeaking => ?_, rfl, rfl, rfl⟩
      have hwas : (restarting (s.answering 0x12 0 [] .nothing)).st.speaking = true := hspeaking
      have hend : (speechEnd (restarting (s.answering 0x12 0 [] .nothing))).st.speaking = false ∧
          (speechEnd (restarting (s.answering 0x12 0 [] .nothing))).st.lastSpeech = s.st.elapsed := by
        simp only [speechEnd, hwas, if_true, true_and]
        rfl
      exact hend
    case yielding =>
      rw [hgiven (by simp [hseat]), restartSeat_of_yielding (by exact hseat) (by
          rw [flying_restarting]
          simp [State.flying, hflight]),
        restarting_sq_of_free (by exact hflight)]
      exact flush_of_empty (by exact hout)
    case line =>
      obtain ⟨hidle, hnone, hflags, hsq⟩ := restartSeat_of_line (u := restarting (s.answering 0x12 0 [] .nothing)) hseat hask hflight
      rw [restarting_sq_of_free (by exact hflight)] at hsq
      rw [hgiven (by obtain h | h := hseat <;> intro hl <;> simp [hl, Seat.isTaking] at h)]
      simp only [flush_keeps]
      exact ⟨hidle, hnone, hflags, hsq⟩
    case once =>
      have hsq := restarting_sq_of_free (u := s.answering 0x12 0 [] .nothing) hflight
      rw [hgiven (by intro hl; simp [hl, Seat.isSettling, Seat.isTaking] at hseat),
        restartSeat_at_once (by exact hseat) rfl (by rw [hsq]; exact hflight) (by rw [hsq]; rfl) (by rw [hsq]; rfl)]
      exact flush_completeRestart_of_quiet (u := s.answering 0x12 0 [] .nothing) hs.2
    case ask =>
      rw [hgiven (by simp [hseat]), restartSeat_of_flying (.inl ⟨by exact hseat, by exact hflying⟩) (by exact hflight ▸ by simp),
        latchRestart, restarting_sq_of_floor (by exact flying_floor_of_ask hflying)]
      exact flush_of_empty (by exact hout)
    case take =>
      rw [hgiven (by intro hl; simp [hl, Seat.isTaking] at hseat),
        restartSeat_of_flying (.inr ⟨by exact hseat, by exact hflying⟩) (by exact hflight ▸ by simp),
        latchRestart, restarting_sq_of_floor (by exact flying_floor_of_take hflying)]
      exact flush_of_empty (by exact hout)
    case yieldFlying =>
      have hflying : s.flying .floor = true := by simp [State.flying, hflight, hslot]
      rw [hgiven (by simp [hseat]), restartSeat_of_yield_flying (by exact hseat) (by exact hflying),
        checkRestart_of_flight (by exact hflight ▸ by simp)]
      refine (flush_of_empty (by exact hout)).trans ?_
      rw [restarting_eq, restarting_sq_of_floor (by exact hflying)]
      rfl
    case holdFlying =>
      have hleft := restartSeat_of_speaking (u := restarting (s.answering 0x12 0 [] .nothing)) hseat (by
        rw [flying_restarting]
        simp [State.flying, hflight, hslot])
      rw [restarting_sq_of_hold (by exact hflight) hslot] at hleft
      rw [hgiven (by obtain h | h := hseat <;> simp [h]), hleft, flush_of_empty (by exact hout)]
      exact ⟨rfl, rfl, rfl⟩
  case sent =>
    obtain ⟨slot, f⟩ := fl
    obtain rfl : slot = .floor := hslot
    have hrestarted := restarted_of_sent (isRestartFrame_of hframe) hrestart hflight hfault hheld hs.2
    refine gives_of_event hs (f := attemptCompleted) rfl ?_
    rw [hrestarted]
    exact congrArg (fun p => State.restarted { s with li := s.li.afterSlot, pp := p }) (offerFeed_pp true f s)
  case dropped =>
    obtain ⟨slot, f⟩ := fl
    obtain rfl : slot = .floor := hslot
    exact gives_of_event hs (f := attemptObjected) rfl
      (restarted_of_dropped (isRestartFrame_of hframe) hrestart hflight hheld hcount hs.2)
  case completion =>
    exact gives_of_event hs (f := checkRestart) rfl (flush_checkRestart_of_done hrestart hflight hfloor hheld rfl hs.2)

end Sys2Proof.Instant
end

section

/-! A frame on the line, bit by bit (R5 to R9, R11, R12, R42). -/

namespace Sys2Proof.Instant

open Sys2Proof Sys2Proof.Machine

-- One proof at a time: the text is compiled in bounded memory.
set_option Elab.async false

variable {s t : State} {f : Frame} {v : Bool} {b : TxBit} {rest : List TxBit}

/-! ## One bit time -/

/-- R18: the station with the dominant count of the bit it reads. -/
def counted (v : Bool) (s : State) : State := { s with li := { s.li with dominantRun := countDominant v s.li.dominantRun } }

/-- The statuses in which LI sends. -/
def Sends (l : LineStatus) : Prop := l = .lead ∨ l = .arbitrating ∨ l = .sending

theorem readBit_of_sends (hstatus : Sends s.li.status) (htx : s.li.tx = b :: rest)
    (hrun : countDominant v s.li.dominantRun ≠ 64) : readBit v s = sendBit v b rest (counted v s) := by
  obtain h | h | h := hstatus <;> simp [readBit, h, hrun, htx, counted]

theorem readBit_of_receiving (hstatus : s.li.status = .receiving) (hrun : countDominant v s.li.dominantRun ≠ 64) :
    readBit v s = receiveBit v (counted v s) := by
  simp [readBit, hstatus, hrun, counted]

/-! ## The frame's bits -/

theorem bodyBits_length (b : Body) : b.bits.length = bodyLength b.cls := by
  cases b <;> simp [Body.bits, Body.cls, bodyLength]

theorem covered_length (f : Frame) : f.covered.length = 31 + bodyLength f.body.cls := by
  simp only [Frame.covered, Frame.arbBits, List.length_append, bitsMsb_length, bodyBits_length]

theorem content_length (f : Frame) : f.content.length = 31 + bodyLength f.body.cls + 16 := by
  simp [Frame.content, covered_length]

theorem content_take_covered (f : Frame) : f.content.take f.covered.length = f.covered := by
  simp [Frame.content]

/-- R11: the class, read from a buffer that holds it. -/
theorem cls_of_prefix {p q : List Bool} (h : p ++ q = f.content) (hlength : 3 ≤ p.length) :
    natOfBits (p.take 3) = f.body.cls := by
  have htake : p.take 3 = f.content.take 3 := by
    rw [← h, List.take_append_of_le_length hlength]
  rw [htake]
  simp [Frame.content, Frame.covered, Frame.arbBits]

/-- R12: the bits before the CRC are covered. -/
theorem crcCovers_prefix {p q : List Bool} (h : p ++ q = f.content) : crcCovers p = decide (p.length < f.covered.length) := by
  rw [covered_length, crcCovers]
  by_cases hshort : p.length < 31
  · simp [hshort, Nat.lt_add_right]
  · rw [cls_of_prefix h (by omega)]
    simp [hshort]

/-- R7: a buffer holds a whole frame when nothing of the frame is left. -/
theorem whole_iff {p q : List Bool} (h : p ++ q = f.content) : (3 ≤ p.length ∧ frameLength p ≤ p.length) ↔ q = [] := by
  have hlength : p.length + q.length = 31 + bodyLength f.body.cls + 16 := by
    rw [← content_length, ← h, List.length_append]
  constructor
  · rintro ⟨hthree, hframe⟩
    rw [frameLength, cls_of_prefix h hthree] at hframe
    exact List.eq_nil_of_length_eq_zero (by omega)
  · rintro rfl
    have hthree : 3 ≤ p.length := by
      rw [List.length_nil] at hlength
      omega
    refine ⟨hthree, ?_⟩
    rw [frameLength, cls_of_prefix h hthree]
    rw [List.length_nil] at hlength
    omega

/-- R12: the CRC register over the covered bits among those in the buffer. -/
def crcRead (f : Frame) (p : List Bool) : BitVec 16 := crcOf (p.take f.covered.length)

/-- R12: one more bit in the buffer. -/
theorem crcRead_concat {p q : List Bool} {x : Bool} (h : p ++ x :: q = f.content) :
    crcRead f (p ++ [x]) = if crcCovers p then crcStep (crcRead f p) x else crcRead f p := by
  rw [crcCovers_prefix h]
  by_cases hcovered : p.length < f.covered.length
  · rw [if_pos (by simpa using hcovered), crcRead, crcRead, List.take_of_length_le (by simp; omega),
      List.take_of_length_le (by omega), crcOf, crcOf, List.foldl_append]
    rfl
  · rw [if_neg (by simpa using hcovered), crcRead, crcRead, List.take_append_of_le_length (by omega)]

theorem crcRead_content (f : Frame) : crcRead f f.content = crcOf f.covered := by
  rw [crcRead, content_take_covered]

/-! ## Runs -/

/-- R18: the dominant values among those of the run in progress. -/
def dominantOf (value : Bool) (length : Nat) : Nat := if value then 0 else length

/-- R6, R18: the dominant count follows the run count, below 64. -/
theorem countDominant_eq {value x : Bool} {length : Nat} (h : (nextRun value length x).2 ≤ 6) :
    countDominant x (dominantOf value length) = dominantOf (nextRun value length x).1 (nextRun value length x).2 := by
  unfold nextRun countDominant dominantOf at *
  cases x <;> cases value <;> simp at h ⊢
  omega

theorem countDominant_ne {value x : Bool} {length : Nat} (h : (nextRun value length x).2 ≤ 6) :
    countDominant x (dominantOf value length) ≠ 64 := by
  rw [countDominant_eq h, dominantOf]
  split <;> omega

/-- R6, R8, R12: the bits that a sender's or a receiver's buffer takes. -/
def bufferedBits (bits : List TxBit) : List Bool := (bits.filter fun b => b.part.buffered).map TxBit.value

theorem bufferedBits_stuff (value : Bool) (length : Nat) (bits : List TxBit) :
    bufferedBits (stuff value length bits) = bufferedBits bits := by
  induction bits generalizing value length with
  | nil => rfl
  | cons b rest ih =>
    have hcons (c : TxBit) (l : List TxBit) :
        bufferedBits (c :: l) = if c.part.buffered then c.value :: bufferedBits l else bufferedBits l := by
      unfold bufferedBits
      rw [List.filter_cons]
      split <;> rfl
    rw [stuff, hcons b rest]
    split
    · rw [hcons, hcons, ih]
      rfl
    · rw [hcons, ih]

theorem bufferedBits_image (f : Frame) : bufferedBits f.image = f.content := by
  rw [Frame.image, bufferedBits_stuff]
  simp [bufferedBits, Frame.unstuffed, Frame.content, Frame.covered, List.filter_map, Function.comp_def, TxPart.buffered]

/-! ## The sender -/

/-- R5, R8, R12: the Line Interface of a sender with some bits in its buffer and in its run, all read as sent. -/
def Sending (f : Frame) (p : List Bool) (tx : List TxBit) (value : Bool) (length : Nat) (l : LineIf) : Prop :=
  Sends l.status ∧ l.tx = tx ∧ l.bitFault = false ∧ l.rx = p ∧ l.crc = crcRead f p ∧ l.runValue = value ∧
    l.runLength = length ∧ l.dominantRun = dominantOf value length ∧ (l.idleCount = 0 ∨ false ∈ tx.map TxBit.value)

/-- R9, R14, R42: the Line Interface of a sender in the slot of a frame that was read as sent. -/
def Sent (f : Frame) (l : LineIf) : Prop :=
  l.status = .slot ∧ l.tx = [] ∧ l.bitFault = false ∧ l.objecting = false ∧ l.rx = f.content ∧ l.crc = crcOf f.covered ∧
    l.idleCount = 0

theorem sendOn_nil : sendOn [] s = { s with li := { s.li with tx := [], status := .slot, objecting := s.li.bitFault } } := rfl

/-- R8, R9: a sender with bits left goes on sending. -/
theorem sendOn_cons (hstatus : Sends s.li.status) :
    ∃ l, sendOn (b :: rest) s = { s with li := { s.li with tx := b :: rest, status := l } } ∧ Sends l ∧
      (s.li.bitFault = true → l = .sending) := by
  unfold sendOn
  cases hfault : s.li.bitFault with
  | true => exact ⟨.sending, by simp [hfault], .inr (.inr rfl), fun _ => rfl⟩
  | false =>
    cases hpart : b.part with
    | lead => exact ⟨s.li.status, by simp [hfault, hpart], hstatus, by simp⟩
    | field => exact ⟨.arbitrating, by simp [hfault, hpart], .inr (.inl rfl), by simp⟩
    | stuff => exact ⟨s.li.status, by simp [hfault, hpart], hstatus, by simp⟩
    | data => exact ⟨.sending, by simp [hfault, hpart], .inr (.inr rfl), by simp⟩

/-- R3, R6, R8, R12: the Line Interface with a bit that was sent and read as itself. -/
def bitRead (b : TxBit) (l : LineIf) : LineIf :=
  { l with
    dominantRun := countDominant b.value l.dominantRun
    idleCount := if b.value then l.idleCount else 0
    crc := if b.part.buffered && crcCovers l.rx then crcStep l.crc b.value else l.crc
    rx := if b.part.buffered then l.rx ++ [b.value] else l.rx
    runValue := (nextRun l.runValue l.runLength b.value).1
    runLength := (nextRun l.runValue l.runLength b.value).2 }

theorem sendBit_as_sent (hfault : s.li.bitFault = false) :
    sendBit b.value b rest (counted b.value s) = sendOn rest { s with li := bitRead b s.li } := by
  have hclear : (counted b.value s).li.bitFault = false := hfault
  rw [sendBit, if_neg (by simp [hclear])]
  dsimp only
  rw [if_pos rfl]
  congr 1
  cases hvalue : b.value <;> cases hbuffered : b.part.buffered <;>
    simp [countRun, pushBit, busyLine, counted, bitRead, hvalue, hbuffered]

theorem bufferedBits_cons (b : TxBit) (rest : List TxBit) :
    bufferedBits (b :: rest) = (if b.part.buffered then [b.value] else []) ++ bufferedBits rest := by
  unfold bufferedBits
  rw [List.filter_cons]
  split <;> rfl

/-- R8, R12: the buffer and the CRC register after a bit. -/
theorem bitRead_buffer {p : List Bool} {l : LineIf} (hrx : l.rx = p) (hcrc : l.crc = crcRead f p)
    (hcontent : p ++ bufferedBits (b :: rest) = f.content) :
    (bitRead b l).crc = crcRead f (bitRead b l).rx ∧ (bitRead b l).rx ++ bufferedBits rest = f.content := by
  rw [bufferedBits_cons] at hcontent
  cases hbuffered : b.part.buffered with
  | true =>
    rw [hbuffered, if_pos rfl] at hcontent
    simp only [bitRead, hbuffered, hrx, hcrc, Bool.true_and, if_true]
    exact ⟨(crcRead_concat hcontent).symm, by rw [List.append_assoc]; exact hcontent⟩
  | false =>
    rw [hbuffered] at hcontent
    simp only [bitRead, hbuffered, hrx, hcrc, Bool.false_and, Bool.false_eq_true, if_false]
    exact ⟨trivial, hcontent⟩

/-- R5 to R9: a sender's next bit, read as sent. -/
theorem sending_step {p : List Bool} {value : Bool} {length : Nat} (h : Sending f p (b :: rest) value length s.li)
    (hrun : (nextRun value length b.value).2 ≤ 6) (hcontent : p ++ bufferedBits (b :: rest) = f.content) :
    ∃ l, readBit b.value s = { s with li := l } ∧ (rest = [] → Sent f l) ∧
      (rest ≠ [] → ∃ p', p' ++ bufferedBits rest = f.content ∧
        Sending f p' rest (nextRun value length b.value).1 (nextRun value length b.value).2 l) := by
  obtain ⟨hstatus, htx, hfault, hrx, hcrc, hvalue, hlength, hdominant, hidle⟩ := h
  have hne : countDominant b.value s.li.dominantRun ≠ 64 := by
    rw [hdominant]
    exact countDominant_ne hrun
  obtain ⟨hcrcNext, hcontentNext⟩ := bitRead_buffer hrx hcrc hcontent
  have hidleNext : (bitRead b s.li).idleCount = 0 ∨ false ∈ rest.map TxBit.value := by
    cases hb : b.value with
    | false => exact .inl (by simp [bitRead, hb])
    | true => simpa [bitRead, hb] using hidle
  rw [readBit_of_sends hstatus htx hne, sendBit_as_sent hfault]
  cases rest with
  | nil =>
    refine ⟨_, sendOn_nil, fun _ => ?_, fun h => absurd rfl h⟩
    have hwhole : (bitRead b s.li).rx = f.content := by simpa [bufferedBits] using hcontentNext
    exact ⟨rfl, rfl, hfault, hfault, hwhole, by rw [← crcRead_content, ← hwhole]; exact hcrcNext, by simpa using hidleNext⟩
  | cons c rest =>
    obtain ⟨status, hon, hsends, -⟩ := sendOn_cons (s := { s with li := bitRead b s.li }) (b := c) (rest := rest) hstatus
    refine ⟨_, hon, fun h => absurd h (by simp), fun _ => ⟨(bitRead b s.li).rx, hcontentNext, ?_⟩⟩
    refine ⟨hsends, rfl, hfault, rfl, hcrcNext, ?_, ?_, ?_, hidleNext⟩
    · simp only [bitRead, hvalue, hlength]
    · simp only [bitRead, hvalue, hlength]
    · simp only [bitRead, hdominant]
      exact countDominant_eq hrun

/-- R5 to R9: a sender that reads its bits as it sends them. -/
theorem sending_foldl {tx : List TxBit} (hne : tx ≠ []) {s : State} {p : List Bool} {value : Bool} {length : Nat}
    (h : Sending f p tx value length s.li) (hrun : runsBounded value length (tx.map TxBit.value))
    (hcontent : p ++ bufferedBits tx = f.content) :
    ∃ l, (tx.map TxBit.value).foldl (fun u v => readBit v u) s = { s with li := l } ∧ Sent f l := by
  induction tx generalizing s p value length with
  | nil => exact absurd rfl hne
  | cons b rest ih =>
    obtain ⟨hbounded, hboundedRest⟩ := hrun
    obtain ⟨l, hread, hsent, hsending⟩ := sending_step h hbounded hcontent
    rw [List.map_cons, List.foldl_cons, hread]
    by_cases hrest : rest = []
    · subst hrest
      exact ⟨l, rfl, hsent rfl⟩
    · obtain ⟨p', hcontentNext, hnext⟩ := hsending hrest
      obtain ⟨l', hfold, hdone⟩ := ih hrest (s := { s with li := l }) hnext hboundedRest hcontentNext
      exact ⟨l', hfold, hdone⟩

end Sys2Proof.Instant
end

section

/-! A frame on the line, as a receiver reads it, and bit by bit at its sender (R5 to R9, R11, R12, R42). -/

namespace Sys2Proof.Instant

open Sys2Proof Sys2Proof.Machine

-- One proof at a time: the text is compiled in bounded memory.
set_option Elab.async false

variable {s : State} {f : Frame} {v : Bool} {b : TxBit} {rest : List TxBit}

/-! ## The receiver -/

/-- R6, R7, R12: the Line Interface of a receiver with some bits in its buffer and in its run. -/
def Receiving (f : Frame) (p : List Bool) (value : Bool) (length : Nat) (l : LineIf) : Prop :=
  l.status = .receiving ∧ l.rx = p ∧ l.crc = crcRead f p ∧ l.runValue = value ∧ l.runLength = length ∧
    l.dominantRun = dominantOf value length ∧ l.idleCount = 0

/-- R7, R12: a station in the slot of a frame that it has received whole. -/
def Received (f : Frame) (t : State) : Prop :=
  t.li.status = .slot ∧ t.li.rx = f.content ∧ t.crcFault = false ∧ t.li.objecting = false ∧ t.li.idleCount = 0

theorem frameRead_eq {p q : List Bool} {value : Bool} {length : Nat} (h : Receiving f p value length s.li)
    (hcontent : p ++ q = f.content) : s.frameRead = decide (q = [] ∧ length ≠ 6) := by
  obtain ⟨-, hrx, -, -, hlength, -, -⟩ := h
  rw [State.frameRead, hrx, hlength, decide_eq_decide, ← and_assoc, whole_iff hcontent]

theorem crcFault_of_whole {value : Bool} {length : Nat} (h : Receiving f f.content value length s.li) : s.crcFault = false := by
  obtain ⟨-, hrx, hcrc, -, -, -, -⟩ := h
  have hbits : f.content.drop (f.content.length - 16) = bitsMsb 16 (crcOf f.covered).toNat := by
    rw [content_length, ← covered_length]
    simp [Frame.content]
  rw [State.crcFault, hrx, hcrc, crcRead_content, hbits, natOfBits_bitsMsb (crcOf f.covered).isLt]
  simp

/-- R12, R14: a frame received whole is not objected. -/
theorem received_of_enterSlot {value : Bool} {length : Nat} (h : Receiving f f.content value length s.li) :
    ∃ l, enterSlot s = { s with li := l } ∧ Received f { s with li := l } := by
  have hfault := crcFault_of_whole h
  obtain ⟨-, hrx, -, -, -, -, hidle⟩ := h
  refine ⟨_, rfl, rfl, hrx, hfault, ?_, hidle⟩
  simp [hfault]

theorem nextRun_le {value x : Bool} {length : Nat} (h : length < 6) : (nextRun value length x).2 ≤ 6 := by
  unfold nextRun
  split
  · exact h
  · exact Nat.le_of_ble_eq_true rfl

theorem nextRun_not (value : Bool) (length : Nat) : nextRun value length (!value) = (!value, 1) :=
  if_neg (by simp)

theorem cls_lt (b : Body) : b.cls < 7 := by cases b <;> simp [Body.cls]

/-- R7: a receiver's next bit is no stuff bit. -/
theorem receiving_data {p q : List Bool} {value x : Bool} {length : Nat} (h : Receiving f p value length s.li) (hlength : length < 6)
    (hcontent : p ++ x :: q = f.content) :
    ∃ l, Receiving f (p ++ [x]) (nextRun value length x).1 (nextRun value length x).2 l ∧
      readBit x s = if q = [] ∧ (nextRun value length x).2 ≠ 6 then enterSlot { s with li := l } else { s with li := l } := by
  obtain ⟨hstatus, hrx, hcrc, hvalue, hrunLength, hdominant, hidle⟩ := h
  have hbound := nextRun_le (value := value) (x := x) hlength
  have hnext : Receiving f (p ++ [x]) (nextRun value length x).1 (nextRun value length x).2
      (countRun x (pushBit x (counted x s))).li := by
    refine ⟨hstatus, ?_, ?_, ?_, ?_, ?_, hidle⟩
    · simp only [countRun, pushBit, counted, hrx]
    · simp only [countRun, pushBit, counted, hrx, hcrc]
      exact (crcRead_concat hcontent).symm
    · simp only [countRun, pushBit, counted, hvalue, hrunLength]
    · simp only [countRun, pushBit, counted, hvalue, hrunLength]
    · simp only [countRun, pushBit, counted, hdominant]
      exact countDominant_eq hbound
  have hcontentNext : (p ++ [x]) ++ q = f.content := by
    rw [List.append_assoc]
    exact hcontent
  have hformat : ¬ ((p ++ [x]).length = 3 ∧ natOfBits (p ++ [x]) = 7) := by
    rintro ⟨hthree, hseven⟩
    have hcls := cls_of_prefix hcontentNext (by omega)
    rw [List.take_of_length_le (by omega), hseven] at hcls
    have := cls_lt f.body
    omega
  refine ⟨_, hnext, ?_⟩
  have hread := frameRead_eq hnext hcontentNext
  have hbuffer : (countRun x (pushBit x (counted x s))).li.rx = p ++ [x] := by
    obtain ⟨-, hbuffer, -⟩ := hnext
    exact hbuffer
  rw [readBit_of_receiving hstatus (by rw [hdominant]; exact countDominant_ne hbound), receiveBit,
    if_neg (by rw [show (counted x s).li.runLength = length from hrunLength]; omega)]
  simp only [hbuffer, if_neg hformat, hread, decide_eq_true_eq]
  rfl

/-- R6, R7: a receiver's next bit is a stuff bit. -/
theorem receiving_stuff {p q : List Bool} {value : Bool} (h : Receiving f p value 6 s.li) (hcontent : p ++ q = f.content) :
    ∃ l, Receiving f p (!value) 1 l ∧
      readBit (!value) s = if q = [] then enterSlot { s with li := l } else { s with li := l } := by
  obtain ⟨hstatus, hrx, hcrc, hvalue, hrunLength, hdominant, hidle⟩ := h
  have hrun := nextRun_not value 6
  have hbound : (nextRun value 6 (!value)).2 ≤ 6 := by
    rw [hrun]
    exact Nat.le_of_ble_eq_true rfl
  have hnext : Receiving f p (!value) 1 (countRun (!value) (counted (!value) s)).li := by
    refine ⟨hstatus, hrx, hcrc, ?_, ?_, ?_, hidle⟩
    · simp only [countRun, counted, hvalue, hrunLength, hrun]
    · simp only [countRun, counted, hvalue, hrunLength, hrun]
    · simp only [countRun, counted, hdominant]
      rw [countDominant_eq hbound, hrun]
  refine ⟨_, hnext, ?_⟩
  have hread := frameRead_eq hnext hcontent
  rw [readBit_of_receiving hstatus (by rw [hdominant]; exact countDominant_ne hbound), receiveBit,
    if_pos (show (counted (!value) s).li.runLength = 6 from hrunLength),
    if_neg (by rw [show (counted (!value) s).li.runValue = value from hvalue]; simp)]
  simp only [hread, decide_eq_true_eq, ne_eq, Nat.reduceEqDiff, not_false_eq_true, and_true]
  rfl

/-- R6, R7, R12: a receiver that reads the stuffed rest of a frame. -/
theorem receiving_foldl {bits : List TxBit} (hne : bits ≠ []) {s : State} {p : List Bool} {value : Bool} {length : Nat}
    (h : Receiving f p value length s.li) (hlength : length < 6) (hcontent : p ++ bits.map TxBit.value = f.content) :
    ∃ l, ((stuff value length bits).map TxBit.value).foldl (fun u v => readBit v u) s = { s with li := l } ∧
      Received f { s with li := l } := by
  induction bits generalizing s p value length with
  | nil => exact absurd rfl hne
  | cons b rest ih =>
    rw [List.map_cons] at hcontent
    have hcontentNext : (p ++ [b.value]) ++ rest.map TxBit.value = f.content := by
      rw [List.append_assoc]
      exact hcontent
    have hbound := nextRun_le (value := value) (x := b.value) hlength
    obtain ⟨l, hnext, hread⟩ := receiving_data h hlength hcontent
    have hslot {u : State} {p' : List Bool} {value' : Bool} {length' : Nat} (hu : Receiving f p' value' length' u.li)
        (hwhole : p' = f.content) : ∃ l, enterSlot u = { u with li := l } ∧ Received f { u with li := l } := by
      subst hwhole
      exact received_of_enterSlot hu
    rw [stuff]
    by_cases hsix : (nextRun value length b.value).2 = 6
    · rw [hsix] at hnext
      obtain ⟨l', hstuffed, hreadStuff⟩ := receiving_stuff (s := { s with li := l }) hnext hcontentNext
      simp only [hsix, if_true, List.map_cons, List.foldl_cons]
      rw [hread, if_neg (by simp [hsix]), hreadStuff]
      by_cases hrest : rest = []
      · subst hrest
        obtain ⟨l'', hentered, hreceived⟩ := hslot (u := { s with li := l' }) hstuffed (by simpa using hcontentNext)
        exact ⟨l'', hentered, hreceived⟩
      · rw [if_neg (by simpa using hrest)]
        exact ih hrest (s := { s with li := l' }) hstuffed (by omega) hcontentNext
    · simp only [hsix, if_false, List.map_cons, List.foldl_cons]
      rw [hread]
      by_cases hrest : rest = []
      · subst hrest
        obtain ⟨l', hentered, hreceived⟩ := hslot (u := { s with li := l }) hnext (by simpa using hcontentNext)
        rw [if_pos ⟨rfl, hsix⟩]
        exact ⟨l', hentered, hreceived⟩
      · rw [if_neg (by simp [hrest])]
        exact ih hrest (s := { s with li := l }) hnext (by omega) hcontentNext

/-! ## The lead -/

/-- R21: the bits of a frame behind its lead, before stuffing. -/
def contentBits (f : Frame) : List TxBit :=
  f.arbBits.map (fun b => { value := b, part := .field })
    ++ (f.body.bits ++ bitsMsb 16 (crcOf f.covered).toNat).map (fun b => { value := b, part := .data })

theorem contentBits_values (f : Frame) : (contentBits f).map TxBit.value = f.content := by
  simp [contentBits, Frame.content, Frame.covered, Function.comp_def]

theorem contentBits_ne_nil (f : Frame) : contentBits f ≠ [] := by
  intro h
  have hvalues := contentBits_values f
  rw [h] at hvalues
  have hlength := content_length f
  rw [← hvalues] at hlength
  simp at hlength

/-- R5, R6: no stuff bit stands in the lead. -/
theorem image_values (f : Frame) :
    f.image.map TxBit.value = [false, true, false, false] ++ (stuff false 2 (contentBits f)).map TxBit.value := by
  simp [Frame.image, Frame.unstuffed, contentBits, stuff, nextRun]

/-- R5: a station on a free line that reads a lead becomes a receiver. -/
theorem receiving_of_lead (hidle : s.li.status = .idle) (hcount : s.li.idleCount = 10) (hburst : s.li.burstLeft = 0)
    (hdominant : s.li.dominantRun = 0) :
    ∃ l, [false, true, false, false].foldl (fun u v => readBit v u) s = { s with li := l } ∧ Receiving f [] false 2 l := by
  refine ⟨{ s.li with status := .receiving, idleCount := 0, dominantRun := 2, leadBits := 4, runValue := false, runLength := 2,
                      rx := [], crc := 0xFFFF, tx := [] }, ?_, rfl, rfl, rfl, rfl, rfl, rfl, rfl⟩
  simp [readBit, hidle, hcount, hburst, hdominant, countDominant, idleBit, receiveLead, countRun, nextRun]

/-! ## One bit of a sender -/

theorem countDominant_ne_of_lt {n : Nat} (h : n < 63) : countDominant v n ≠ 64 := by
  unfold countDominant
  split <;> omega

/-- R2: what a sender drives. -/
theorem flTx_of_sends (hs : s.resetLow = false) (hlisten : s.seat ≠ .listen) (hburst : s.li.burstLeft = 0)
    (hstatus : Sends s.li.status) (htx : s.li.tx = b :: rest) : s.flTx = (s.li.bitFault || b.value) := by
  obtain h | h | h := hstatus <;> cases hfault : s.li.bitFault <;> simp [State.flTx, hs, hlisten, hburst, h, htx, hfault]

/-- R2: a sender with a bit fault, and one that has lost, drives nothing until the slot, where a fault objects. -/
theorem flTx_of_fault (hfault : s.li.bitFault = true) (hburst : s.li.burstLeft = 0) (hstatus : Sends s.li.status) :
    s.flTx = true := by
  obtain h | h | h := hstatus <;> simp [State.flTx, h, hfault, hburst]

theorem flTx_of_receiving (hburst : s.li.burstLeft = 0) (hstatus : s.li.status = .receiving) : s.flTx = true := by
  simp [State.flTx, hstatus, hburst]

theorem flTx_of_objecting (hs : s.resetLow = false) (hlisten : s.seat ≠ .listen) (hburst : s.li.burstLeft = 0)
    (hstatus : s.li.status = .slot) (hobjecting : s.li.objecting = true) : s.flTx = false := by
  simp [State.flTx, hs, hlisten, hburst, hstatus, hobjecting]

/-- R9, R14: after a bit, a sender stands in the slot when nothing is left to send, and objects there after a bit fault. -/
theorem sendOn_fields (hstatus : Sends s.li.status) :
    ∃ l, sendOn rest s = { s with li := l } ∧ l.tx = rest ∧ l.bitFault = s.li.bitFault ∧ l.burstLeft = s.li.burstLeft ∧
      (l.status = .slot ↔ rest = []) ∧ (rest = [] → l.objecting = s.li.bitFault) ∧ (rest ≠ [] → Sends l.status) := by
  cases rest with
  | nil => exact ⟨_, sendOn_nil, rfl, rfl, rfl, ⟨fun _ => rfl, fun _ => rfl⟩, fun _ => rfl, fun h => absurd rfl h⟩
  | cons c rest =>
    obtain ⟨status, hon, hsends, -⟩ := sendOn_cons (b := c) (rest := rest) hstatus
    refine ⟨_, hon, rfl, rfl, rfl, ⟨fun h => ?_, fun h => by cases h⟩, fun h => by (cases h), fun _ => hsends⟩
    obtain h' | h' | h' := hsends <;> simp [h'] at h

/-- R3, R6, R8, R12: the station of a sender without a bit fault, with the bit it has read counted and buffered. -/
def lineSampled (v : Bool) (b : TxBit) (s : State) : State :=
  countRun v (if b.part.buffered then pushBit v (busyLine v s) else busyLine v s)

theorem lineSampled_eq (v : Bool) (b : TxBit) (s : State) :
    lineSampled v b s = { s with li := (lineSampled v b s).li } ∧ (lineSampled v b s).li.status = s.li.status ∧
      (lineSampled v b s).li.burstLeft = s.li.burstLeft ∧ (lineSampled v b s).li.bitFault = s.li.bitFault ∧
      (lineSampled v b s).li.rx = if b.part.buffered then s.li.rx ++ [v] else s.li.rx := by
  unfold lineSampled
  cases v <;> cases b.part.buffered <;> exact ⟨rfl, rfl, rfl, rfl, rfl⟩

theorem sendBit_of_clear (hfault : s.li.bitFault = false) :
    sendBit v b rest s = if v = b.value then sendOn rest (lineSampled v b s)
      else if b.part = .field ∧ b.value = true then attemptLost (lineSampled v b s)
      else sendOn rest { lineSampled v b s with li := { (lineSampled v b s).li with bitFault := true } } := by
  rw [sendBit, if_neg (by simp [hfault])]
  rfl

/-- R9: a sender with a bit fault follows its frame. -/
theorem sendBit_of_fault (hfault : s.li.bitFault = true) : sendBit v b rest s = sendOn rest (busyLine v s) := by
  rw [sendBit, if_pos hfault]

theorem busyLine_eq (v : Bool) (s : State) :
    busyLine v s = { s with li := (busyLine v s).li } ∧ (busyLine v s).li.status = s.li.status ∧
      (busyLine v s).li.burstLeft = s.li.burstLeft ∧ (busyLine v s).li.bitFault = s.li.bitFault := by
  cases v <;> exact ⟨rfl, rfl, rfl, rfl⟩

/-- R5 to R9: the Line Interface of a sender before it goes on, after a bit that it has not lost. -/
theorem sendBit_goes_on (hlost : s.li.bitFault = true ∨ v = b.value ∨ ¬ (b.part = .field ∧ b.value = true)) :
    ∃ l, sendBit v b rest s = sendOn rest { s with li := l } ∧ l.status = s.li.status ∧ l.burstLeft = s.li.burstLeft ∧
      l.bitFault = (s.li.bitFault || decide (v ≠ b.value)) := by
  cases hfault : s.li.bitFault with
  | true =>
    obtain ⟨heq, hstatus, hburst, hkept⟩ := busyLine_eq v s
    refine ⟨(busyLine v s).li, ?_, hstatus, hburst, by rw [hkept, hfault]; rfl⟩
    rw [sendBit_of_fault hfault, ← heq]
  | false =>
    obtain ⟨heq, hstatus, hburst, hkept, -⟩ := lineSampled_eq v b s
    rw [sendBit_of_clear hfault]
    by_cases hread : v = b.value
    · refine ⟨(lineSampled v b s).li, ?_, hstatus, hburst, by rw [hkept, hfault]; simp [hread]⟩
      rw [if_pos hread, ← heq]
    · refine ⟨{ (lineSampled v b s).li with bitFault := true }, ?_, hstatus, hburst, by simp [hread]⟩
      have hnot : ¬ (b.part = .field ∧ b.value = true) := by
        obtain h | h | h := hlost
        · simp [hfault] at h
        · exact absurd h hread
        · exact h
      rw [if_neg hread, if_neg hnot]
      exact congrArg (sendOn rest) (congrArg (fun u : State => { u with li := { (lineSampled v b s).li with bitFault := true } }) heq)

/-- R5, R7: the next bit of a sender that has not lost it. -/
theorem readBit_goes_on (hstatus : Sends s.li.status) (htx : s.li.tx = b :: rest) (hdominant : s.li.dominantRun < 63)
    (hlost : s.li.bitFault = true ∨ v = b.value ∨ ¬ (b.part = .field ∧ b.value = true)) :
    ∃ l, readBit v s = { s with li := l } ∧ l.tx = rest ∧ l.bitFault = (s.li.bitFault || decide (v ≠ b.value)) ∧
      l.burstLeft = s.li.burstLeft ∧ (l.status = .slot ↔ rest = []) ∧ (rest = [] → l.objecting = l.bitFault) ∧
      (rest ≠ [] → Sends l.status) := by
  obtain ⟨l, hsent, hkept, hburst, hfault⟩ := sendBit_goes_on (s := counted v s) (rest := rest) hlost
  obtain ⟨l', hon, hrest, hfaultOn, hburstOn, hslot, hobjects, hsends⟩ :=
    sendOn_fields (s := { counted v s with li := l }) (rest := rest) (by rw [show l.status = s.li.status from hkept]; exact hstatus)
  refine ⟨l', ?_, hrest, hfaultOn.trans hfault, hburstOn.trans hburst, hslot, fun h => (hobjects h).trans hfaultOn.symm, hsends⟩
  rw [readBit_of_sends hstatus htx (countDominant_ne_of_lt hdominant), hsent, hon]
  rfl

/-- R8, R40: a recessive field bit read dominant. -/
theorem readBit_lost {fl : Flight} (hstatus : Sends s.li.status) (hsending : s.li.status ≠ .sending) (htx : s.li.tx = b :: rest)
    (hdominant : s.li.dominantRun < 63) (hfault : s.li.bitFault = false) (hread : v ≠ b.value) (hpart : b.part = .field)
    (hvalue : b.value = true) (hflight : s.sq.inFlight = some fl) (hheld : s.sq.heldFor fl.slot = false)
    (hlatch : s.flags.cancelLatch = none) (hrestart : s.flags.restartPending = false) :
    ∃ l, readBit v s = { s with li := l, sq := { s.sq with inFlight := none } } ∧ l.status = .receiving ∧ l.tx = [] ∧
      l.rx = s.li.rx ++ [false] ∧ l.burstLeft = s.li.burstLeft := by
  obtain ⟨heq, hstatusKept, hburst, hfaultKept, hrx⟩ := lineSampled_eq v b (counted v s)
  have hdominantBit : v = false := by
    rw [hvalue] at hread
    simpa using hread
  have hsq : (lineSampled v b (counted v s)).sq = s.sq := by rw [heq]; rfl
  have hflags : (lineSampled v b (counted v s)).flags = s.flags := by rw [heq]; rfl
  rw [readBit_of_sends hstatus htx (countDominant_ne_of_lt hdominant), sendBit_of_clear (by exact hfault), if_neg hread,
    if_pos ⟨hpart, hvalue⟩,
    attemptLost_of_no_latch (by rw [hsq]; exact hflight) (by rw [hflags]; exact hrestart) (by rw [hflags]; exact hlatch)
      (by
        rw [hstatusKept]
        obtain h | h | h := hstatus
        · exact .inl h
        · exact .inr h
        · exact absurd h hsending)
      (by rw [hfaultKept]; exact hfault),
    keepPending_of_uncounted (by exact (hsq ▸ hheld))]
  refine ⟨{ (lineSampled v b (counted v s)).li with status := .receiving, idleCount := 0, tx := [] }, ?_, rfl, rfl, ?_, hburst⟩
  · rw [lostLine]
    rw [heq]
    rfl
  · rw [hpart] at hrx
    exact hrx.trans (by rw [hdominantBit]; rfl)

theorem nextRun_zero (value x : Bool) : nextRun value 0 x = (x, 1) := by
  unfold nextRun
  split <;> simp [*]

/-- R6: before the first bit no run has a value. -/
theorem runsBounded_zero {value value' : Bool} {l : List Bool} (h : runsBounded value 0 l) : runsBounded value' 0 l := by
  cases l with
  | nil => trivial
  | cons x l =>
    rw [runsBounded, nextRun_zero] at h ⊢
    exact h

/-- Settles O12: the receiver's and the sender's runs over a frame, and a sender's next bit. -/
theorem frameOnTheLineIsReceivedWhole : Obligations.FrameOnTheLineIsReceivedWhole := by
  unfold Obligations.FrameOnTheLineIsReceivedWhole
  intro f v b rest s
  refine ⟨fun t hidle hcount hburst hdominant ht => ?received,
    fun t hstatus _ hlength hrx hcrc htx hfault hdominant ht => ?sent,
    fun hs hlisten hburst hdominant htx hstatus => ?bit⟩
  case received =>
    obtain ⟨l, hlead, hreceiving⟩ := receiving_of_lead (f := f) hidle hcount hburst hdominant
    obtain ⟨l', hfold, hreceived⟩ := receiving_foldl (contentBits_ne_nil f) (s := { s with li := l }) hreceiving (by omega)
      (by rw [contentBits_values]; rfl)
    rw [image_values, List.foldl_append, hlead, hfold] at ht
    subst ht
    exact ⟨rfl, hreceived⟩
  case sent =>
    have hsending : Sending f [] f.image s.li.runValue 0 s.li := by
      refine ⟨.inl hstatus, htx, hfault, hrx, hcrc, rfl, hlength, ?_, .inr ?_⟩
      · rw [hdominant, dominantOf, ite_self]
      · rw [image_values]
        exact List.mem_cons_self
    have hne : f.image ≠ [] := by
      intro h
      have himage := image_values f
      simp [h] at himage
    have hrun : runsBounded s.li.runValue 0 (f.image.map TxBit.value) :=
      runsBounded_zero (runsBounded_stuff (value := true) (by omega))
    obtain ⟨l, hfold, hsent⟩ := sending_foldl hne hsending hrun (by rw [bufferedBits_image]; rfl)
    rw [hfold] at ht
    subst ht
    exact ⟨rfl, hsent⟩
  case bit =>
    refine ⟨flTx_of_sends hs.1 hlisten hburst hstatus htx, fun hread => ?_, fun hfault hother =>
      ⟨fun hpart hvalue fl hflight hheld hlatch hrestart hsending => ?_, fun hnot => ?_⟩⟩
    · obtain ⟨l, heq, hrest, hfaultKept, -, hslot, hobjects, -⟩ :=
        readBit_goes_on (v := v) hstatus htx hdominant (hread.imp_right .inl)
      have hsame : (s.li.bitFault || decide (v ≠ b.value)) = s.li.bitFault := by
        obtain h | h := hread <;> simp [h]
      rw [hsame] at hfaultKept
      rw [heq]
      exact ⟨rfl, hrest, hfaultKept, hslot, fun h => (hobjects h).trans hfaultKept⟩
    · obtain ⟨l, heq, hreceives, hempty, hbuffer, hburstKept⟩ :=
        readBit_lost hstatus hsending htx hdominant hfault hother hpart hvalue hflight hheld hlatch hrestart
      rw [heq]
      exact ⟨rfl, hreceives, hempty, hbuffer, flTx_of_receiving (hburstKept.trans hburst) hreceives⟩
    · obtain ⟨l, heq, hrest, hfaultSet, hburstKept, hslot, hobjects, hsends⟩ :=
        readBit_goes_on (v := v) hstatus htx hdominant (.inr (.inr fun ⟨hpart, hvalue⟩ => by
          obtain h | h := hnot
          · exact h hpart
          · simp [hvalue] at h))
      have hfaulty : l.bitFault = true := by rw [hfaultSet]; simp [hother]
      rw [heq]
      refine ⟨rfl, hrest, hfaulty, fun h => flTx_of_fault hfaulty (hburstKept.trans hburst) (hsends h), fun h => ?_⟩
      exact ⟨hslot.mpr h, flTx_of_objecting hs.1 hlisten (hburstKept.trans hburst) (hslot.mpr h) ((hobjects h).trans hfaulty)⟩

end Sys2Proof.Instant
end
